-- ==== Sys2Proof/Word.lean ====
section
/-! DEFINITION. The word types of the block: bytes of memory (R60), 16-bit sample values (R64), 32-bit registers and
addresses (R7), and nothing else. -/

namespace Sys2Proof

/-- One byte of the data space (20_memory R60). -/
abbrev Byte := BitVec 8

/-- A container value, zero-extended to 16 bits (20_memory R64). -/
abbrev Sample := BitVec 16

/-- A host register, a command word, a byte address (00_scope R7). -/
abbrev Word := BitVec 32

end Sys2Proof
end

