-- ==== Sys2Proof/Syntax.lean ====
section
/-! DEFINITION. The operation set (30_encoding R86): one constructor of `Instr` per row of spec/opcode_table.json, and
the four formats in which an operation is presented to the block (30_encoding R80, R83, R84, R85). -/

namespace Sys2Proof

/-- The four operations (30_encoding R86). -/
inductive Instr where
  /-- TRANSFORM: no operand in its word; its operands are registers (30_encoding R81, 42_transform_command R140). -/
  | transform
  /-- PATTERN_LOOKUP of row `y mod 8`, column `x mod 8` (40_lookup_units R100). -/
  | patternLookup (y x : BitVec 3)
  /-- SCALE_LOOKUP of row `r`, column `l` (40_lookup_units R104). -/
  | scaleLookup (r l : BitVec 4)
  /-- QUANTIZE of the container value `v` at `(x mod 8, y mod 8)`, reduced by `r` bits to depth `t`
  (41_quantizer R120). -/
  | quantize (t : BitVec 5) (r : BitVec 4) (y x : BitVec 3) (v : Sample)
  deriving DecidableEq, Repr

/-- The four formats. -/
inductive Format where
  | cmd32
  | patAddr
  | scaleAddr
  | quantReq
  deriving DecidableEq, Repr

/-- A word presented in one of the formats: the CMD register's word, an index of one of the two lookup memories, or a
request to the quantizer. Every format has one fixed length (30_encoding R88). -/
inductive Request where
  | cmd32 (w : Word)
  | patAddr (a : BitVec 6)
  | scaleAddr (a : BitVec 8)
  | quantReq (w : Word)
  deriving DecidableEq, Repr

end Sys2Proof
end

