-- ==== Sys2Proof/WellFormed.lean ====
section
/-! DEFINITION. Which operations the spec calls legal: the constraints of spec/opcode_table.json (30_encoding R84, R85,
R87). -/

namespace Sys2Proof

/-- The table's row constraint of SCALE_ADDR: there is no row 0 (30_encoding R84). -/
def scaleRowLegal (r : BitVec 4) : Bool := r != 0

/-- The conditions of QUANT_REQ: `1 <= T <= 16` and `T + R <= 16` (30_encoding R85). -/
def quantFieldsLegal (t : BitVec 5) (r : BitVec 4) : Bool :=
  decide (1 ≤ t.toNat) && decide (t.toNat ≤ 16) && decide (t.toNat + r.toNat ≤ 16)

/-- An operation whose operands the spec gives a meaning that is no model fault. -/
def Instr.wellFormed : Instr → Bool
  | .transform => true
  | .patternLookup _ _ => true
  | .scaleLookup r _ => scaleRowLegal r
  | .quantize t r _ _ _ => quantFieldsLegal t r

end Sys2Proof
end

