-- ==== Sys2Proof/Decode.lean ====
section
/-! DEFINITION. The decoder of the four formats, total on every word of each, rejecting by name, and the encoder written
from the same tables of the spec (30_encoding R80 to R88). -/

namespace Sys2Proof

/-- Why a word is no operation. -/
inductive DecodeError where
  /-- A CMD32 word other than 0x00000001 (30_encoding R87): the machine reports ILLEGAL_COMMAND (60_exceptions R171). -/
  | illegalCommand (w : Word)
  /-- A QUANT_REQ word with bit 31 set (30_encoding R85, R87): the machine records `bad_quant_request`. -/
  | quantReservedBit (w : Word)
  deriving DecidableEq, Repr

/-- The CMD word that selects TRANSFORM (30_encoding R80): OPCODE 0x01, RSVD 0. -/
def transformWord : Word := 0x00000001#32

/-- CMD32 (30_encoding R80, R87). -/
def decodeCmd32 (w : Word) : Except DecodeError Instr :=
  if w = transformWord then .ok .transform else .error (.illegalCommand w)

/-- PAT_ADDR = `{y[2:0], x[2:0]}`: all 64 indices are valid (30_encoding R83). -/
def decodePatAddr (a : BitVec 6) : Except DecodeError Instr :=
  .ok (.patternLookup (a.extractLsb' 3 3) (a.extractLsb' 0 3))

/-- SCALE_ADDR = `{r[3:0], l[3:0]}` (30_encoding R84). A reserved index (r = 0) is read as the lookup of row 0, whose
meaning is the fault of 40_lookup_units R104. -/
def decodeScaleAddr (a : BitVec 8) : Except DecodeError Instr :=
  .ok (.scaleLookup (a.extractLsb' 4 4) (a.extractLsb' 0 4))

/-- QUANT_REQ (30_encoding R85): V 15:0, XL 18:16, YL 21:19, R 25:22, T 30:26, RSVD 31. -/
def decodeQuantReq (w : Word) : Except DecodeError Instr :=
  if w.extractLsb' 31 1 = 0#1 then
    .ok (.quantize (w.extractLsb' 26 5) (w.extractLsb' 22 4) (w.extractLsb' 19 3) (w.extractLsb' 16 3)
      (w.extractLsb' 0 16))
  else .error (.quantReservedBit w)

/-- The decoder: the format is the port at which the word arrives, so no two formats compete (30_encoding R86, R88). -/
def decode : Request → Except DecodeError Instr
  | .cmd32 w => decodeCmd32 w
  | .patAddr a => decodePatAddr a
  | .scaleAddr a => decodeScaleAddr a
  | .quantReq w => decodeQuantReq w

/-- The encoder, from the same tables (30_encoding R80, R83, R84, R85). -/
def encode : Instr → Request
  | .transform => .cmd32 transformWord
  | .patternLookup y x => .patAddr (y ++ x)
  | .scaleLookup r l => .scaleAddr (r ++ l)
  | .quantize t r y x v => .quantReq (0#1 ++ t ++ r ++ y ++ x ++ v)

/-- A number as a word of a format. -/
def Request.ofBits : Format → Nat → Request
  | .cmd32, w => .cmd32 (BitVec.ofNat 32 w)
  | .patAddr, w => .patAddr (BitVec.ofNat 6 w)
  | .scaleAddr, w => .scaleAddr (BitVec.ofNat 8 w)
  | .quantReq, w => .quantReq (BitVec.ofNat 32 w)

/-- Which format a word of the opcode table is read in, given only its number of bits: the 32-bit rows are CMD32 for the
one legal command word and QUANT_REQ otherwise; the 6-bit and 8-bit rows are PAT_ADDR and SCALE_ADDR, and an 8-bit word
that is a reserved SCALE_ADDR index is read as PAT_ADDR. DESIGN CHOICE (log 17): on the hardware the port tells the
format, so no such guess arises. -/
def tableFormat (nbits w : Nat) : Option Format :=
  if nbits = 32 then some (if w = 1 then .cmd32 else .quantReq)
  else if nbits = 8 then some (if w < 16 then .patAddr else .scaleAddr)
  else if nbits = 6 then some .patAddr
  else none

/-- The word of the opcode table as a request; a width the table does not have gives an illegal command word. -/
def tableRequest (nbits w : Nat) : Request :=
  match tableFormat nbits w with
  | some f => Request.ofBits f w
  | none => .cmd32 0#32

/-- The instruction the decoder reads from a word of the opcode table. -/
def decodeTableWord (nbits w : Nat) : Option Instr :=
  match decode (tableRequest nbits w) with
  | .ok i => some i
  | .error _ => none

end Sys2Proof
end

