-- ==== Sys2Proof/Config.lean ====
section
/-! DEFINITION. What is fixed when the machine is built: the plain-data types of the two tables and of the platform's open
parameters, and the free values, which are opaque and have no body. The spec's numeric parameters (00_scope R7) are in
Machine/Params.lean. -/

namespace Sys2Proof

/-- The three fixed parameters (10_state R37, R38, R40), as data: 8 x 8 pattern entries of 4 bits, 15 x 16 scale entries
of 16 bits (row `r` of the spec at index `r - 1`), 16 level-map entries of 4 bits. -/
structure Rom where
  pattern  : Vector (Vector (BitVec 4) 8) 8
  scale    : Vector (Vector Sample 16) 15
  levelMap : Vector (BitVec 4) 16
  deriving DecidableEq, Repr

/-- A range of byte addresses. -/
structure Span where
  base : Nat
  size : Nat
  deriving DecidableEq, Repr

/-- The platform's open parameters, as data: `REG_BASE` (20_memory R60), `PLATFORM_COHERENT` (R77), where devices lie
(R69, R70), which addresses nothing backs (60_exceptions R174), and `BUS_ERROR(addr, is_write)` (R174) as the addresses
that answer a read, or a write, with a bus error. -/
structure Platform where
  regBase     : Word
  coherent    : Bool
  devices     : List Span
  unbacked    : List Span
  readErrors  : List Span
  writeErrors : List Span
  deriving DecidableEq, Repr

/-! ### Free values: opaque, so that no proof can see one -/

/-- Free: the two low bits of each pattern entry (`DITHER_PATTERN`, OPEN, every entry in 0..3: 00_scope R8). -/
opaque Config.patternSeed : Nat → Nat → BitVec 2

/-- Free: what `DEPTH_SCALE` is built from (OPEN, every row non-decreasing: 00_scope R8). -/
opaque Config.scaleSeed : Nat → Nat → Sample

/-- Free: `REG_BASE` (20_memory R60). -/
opaque Config.regBase : Word

/-- Free: `PLATFORM_COHERENT` (20_memory R77). -/
opaque Config.coherent : Bool

/-- Free: the platform's devices (20_memory R69). -/
opaque Config.devices : List Span

/-- Free: the addresses nothing backs (60_exceptions R174). -/
opaque Config.unbacked : List Span

/-- Free: `BUS_ERROR` on reads (60_exceptions R174). -/
opaque Config.readErrors : List Span

/-- Free: `BUS_ERROR` on writes (60_exceptions R174). -/
opaque Config.writeErrors : List Span

/-- Free: what memory holds at power-on, by address (10_state R46: the engine's reset does not touch it). -/
opaque Config.powerOnByte : Nat → Byte

/-- Free: the n-th byte the spec leaves open (a draw: 42_transform_command R152, R156; 60_exceptions R174). -/
opaque Config.freeByte : Nat → Byte

/-- Free: the n-th choice the spec leaves open (the order of samples, R149; old or new byte, 20_memory R68). -/
opaque Config.freeIndex : Nat → Nat

/-- The running maximum of a sequence: the way to say "any non-decreasing row". -/
def runningMax (f : Nat → Sample) : Nat → Sample
  | 0 => f 0
  | n + 1 => if (runningMax f n).toNat ≤ (f (n + 1)).toNat then f (n + 1) else runningMax f n

/-- The tables as built: any pattern with entries in 0..3, any scale table with non-decreasing rows (00_scope R8), and
the spec's default level map, the identity (10_state R40). -/
def Config.rom : Rom where
  pattern := Vector.ofFn fun y => Vector.ofFn fun x => (Config.patternSeed y.val x.val).zeroExtend 4
  scale := Vector.ofFn fun r => Vector.ofFn fun l => runningMax (Config.scaleSeed (r.val + 1)) l.val
  levelMap := Vector.ofFn fun d => BitVec.ofNat 4 d.val

/-- The platform as built. -/
def Config.platform : Platform where
  regBase := Config.regBase
  coherent := Config.coherent
  devices := Config.devices
  unbacked := Config.unbacked
  readErrors := Config.readErrors
  writeErrors := Config.writeErrors

end Sys2Proof
end

