-- ==== Sys2Proof/Machine/State.lean ====
section
/-! DEFINITION. The machine's state as plain data: the registers of 10_state R22, PENDING (R44), the fixed tables (R37 to
R41), memory (20_memory R60), the recorded model faults (10_state R45), the platform's open parameters, the two agents'
views of memory (20_memory R68, R73 to R77), the other busy instances (60_exceptions R182), and the events still to reach
the block (30_encoding R89). Why a step stops: `Fault` and `Refusal`. -/

namespace Sys2Proof.Machine

/-- A sample's coordinate: column `x`, row `y` (00_scope R12). -/
structure Coord where
  x : Nat
  y : Nat
  deriving DecidableEq, Repr

/-- The error codes that are ever produced (60_exceptions R170); their numbers are in Machine/Flags.lean. -/
inductive ErrCode where
  | none
  | illegalCommand
  | config
  | buffer
  | memFault
  deriving DecidableEq, Repr

/-- The configuration registers (10_state R27 to R32). CMD holds no state (R23). -/
structure Regs where
  depth     : Word
  frameSize : Word
  srcBase   : Word
  srcStride : Word
  dstBase   : Word
  dstStride : Word
  deriving DecidableEq, Repr

/-- STATUS without BUSY, which equals `PENDING != {}` at every moment (10_state R24, R42). -/
structure Status where
  done    : Bool
  err     : Bool
  dropped : Bool
  errCode : ErrCode
  deriving DecidableEq, Repr

/-- A buffer's geometry: `bytes` is the container size in bytes (20_memory R66). -/
structure Buffer where
  base   : Nat
  stride : Nat
  width  : Nat
  height : Nat
  bytes  : Nat
  deriving DecidableEq, Repr

/-- Another engine instance of the platform that is busy (60_exceptions R182, 70_reset_and_hazards R211). -/
structure Neighbour where
  src : Buffer
  dst : Buffer
  deriving DecidableEq, Repr

/-- The model's fault reasons (60_exceptions R186). Each `fault(reason)` of the spec is RECORDED in `State.faults`, whose
being not empty is FAULTED (10_state R45), and the machine goes on, with free values for what the spec leaves open. A step
STOPS (outcome `fault`) only on an access to a device, or in states that no run reaches (log 7). -/
inductive Fault where
  /-- RECORDED on a register access not 32 bits wide or not aligned to 4, or a byte access to the window (10_state R33).
  Safe: what a read returns and what a write does to the registers is free (log 31). -/
  | unsupportedRegisterAccess
  /-- RECORDED when a command whose buffer bytes fall in a device region is accepted; STOPS the sample step that accesses
  such a byte (20_memory R69). Safe: what the access does is the platform's business. -/
  | bufferInDeviceRegion
  /-- RECORDED on SCALE_LOOKUP with `r = 0` (40_lookup_units R104). Safe: the value returned is free, as a reserved index
  has no table entry. -/
  | scaleRowZero
  /-- RECORDED on a QUANT_REQ outside its conditions (30_encoding R87). Safe: the value returned is free. -/
  | badQuantRequest
  /-- RECORDED when a command with an OVERLAPPING layout is accepted; its outputs are free values
  (42_transform_command R156). Safe: the hardware runs the command and leaves memory unspecified. -/
  | bufferOverlap
  /-- RECORDED when the host writes a byte of a busy command's buffers; the byte becomes a free value
  (70_reset_and_hazards R210). Safe: the order of the write and the engine's accesses is not fixed. -/
  | hostWriteToBusyBuffer
  /-- RECORDED when two instances' buffers collide while both are busy (70_reset_and_hazards R211); where one of them is
  this one, what is left of its command writes free values (log 8). Safe: the order of their accesses is not fixed. -/
  | concurrentInstanceOverlap
  /-- The model's own reason. STOPS a sample step whose container does not lie in the 2^32-byte data space. No command that
  was accepted does this (20_memory R66), so only states that no run reaches raise it. Safe: such an address does not exist. -/
  | addressOutsideSpace
  deriving DecidableEq, Repr

/-- What the model gives no meaning. -/
inductive Refusal where
  /-- Raised by an arm of `exec` that has no meaning yet; no arm of this model raises it. Safe: nothing is claimed. -/
  | notModelled (mnemonic : String)
  /-- Raised by a host byte access to a device of the platform that is not this block's window, but for the bytes of a busy
  command's buffers (70_reset_and_hazards R210): the spec gives the device no behaviour (20_memory R69, R70). Safe: nothing
  is claimed of it. -/
  | hostDeviceAccess
  deriving DecidableEq, Repr

/-- What reaches the block from outside, and the turns of the engine agent: the bus accesses of host programs (30_encoding
R89), the reset input (70_reset_and_hazards R200), a request at a sub-block's port (30_encoding R86), cache maintenance on
a platform that is not coherent (20_memory R77), and the other instances (60_exceptions R182). -/
inductive Event where
  /-- A host write of `bytes` bytes at offset `off` of the window (`wr`); `w` is its data when it is 32 bits wide. -/
  | regWrite (bytes : Nat) (off : BitVec 8) (w : Word)
  /-- A host read of `bytes` bytes at offset `off` of the window (`rd`). -/
  | regRead (bytes : Nat) (off : BitVec 8)
  /-- `poll`: repeat the 32-bit read until `value AND mask = val`. -/
  | poll (off : BitVec 8) (mask val : Word)
  /-- `mw8`: a host memory byte write on the host's own path. -/
  | memWrite (a : Word) (b : Byte)
  /-- `mr8`: a host memory byte read on the host's own path. -/
  | memRead (a : Word)
  /-- The host cleans its cached writes in a range to memory (20_memory R77). -/
  | cacheClean (sp : Span)
  /-- The host invalidates its cached copies of a range (20_memory R77). -/
  | cacheInvalidate (sp : Span)
  /-- The reset input is asserted. -/
  | reset
  /-- The engine agent moves: one sample step, for the pending coordinate the choice names (a free choice for `none`). -/
  | engineTurn (choice : Option Nat)
  /-- A word at the port of its format. -/
  | request (q : Request)
  /-- Another instance becomes busy with these buffers. -/
  | neighbourBusy (n : Neighbour)
  /-- The k-th busy other instance becomes idle. -/
  | neighbourIdle (k : Nat)
  /-- The k-th busy other instance writes a byte of its output buffer. -/
  | neighbourWrite (k : Nat) (a : Word) (b : Byte)
  deriving DecidableEq, Repr

/-- The state. `collided`, `reads`, `returned` and `draws` are the model's own fields (log 8, 16, 21). -/
structure State where
  /-- DEPTH, FRAME_SIZE, SRC_BASE, SRC_STRIDE, DST_BASE, DST_STRIDE. -/
  regs       : Regs
  /-- DONE, ERR, DROPPED, ERR_CODE. -/
  status     : Status
  /-- PENDING (10_state R44), in row-major order without repeats. -/
  pending    : List Coord
  /-- Memory: address and byte, addresses strictly rising; an unlisted byte was never written. -/
  mem        : List Host.Cell
  /-- The two tables and LEVEL_MAP (10_state R41). -/
  rom        : Rom
  /-- The platform's open parameters. -/
  platform   : Platform
  /-- The recorded model faults; FAULTED (10_state R45) is "not empty". -/
  faults     : List Fault
  /-- The other instances that are busy. -/
  neighbours : List Neighbour
  /-- The command in progress has met the buffers of another busy instance; set anew when a command is accepted. -/
  collided   : Bool
  /-- For each engine write the host need not see yet, the address and the byte before it (20_memory R68, R74). -/
  unsynced   : List Host.Cell
  /-- Older bytes the host's cache may still hold, on a platform that is not coherent (20_memory R77). -/
  hostCached : List Host.Cell
  /-- For each host write not yet cleaned to memory, the address and the byte before it (20_memory R77). -/
  hostDirty  : List Host.Cell
  /-- The events still to reach the block, first one first (70_reset_and_hazards R214). -/
  inbox      : List Event
  /-- What the host's reads returned, oldest first. -/
  reads      : List Word
  /-- What the last sub-block request returned. -/
  returned   : Option Sample
  /-- The counter of free values. -/
  draws      : Nat
  deriving DecidableEq, Repr

/-- The configuration registers after reset (10_state R46). -/
def Regs.reset : Regs where
  depth := 0#32
  frameSize := 0#32
  srcBase := 0#32
  srcStride := 0#32
  dstBase := 0#32
  dstStride := 0#32

/-- STATUS after reset (10_state R46). -/
def Status.reset : Status where
  done := false
  err := false
  dropped := false
  errCode := .none

/-- The block after power-on reset, with given tables on a given platform (10_state R46, 70_reset_and_hazards R200). -/
def State.powerOn (rom : Rom) (platform : Platform) : State where
  regs := Regs.reset
  status := Status.reset
  pending := []
  mem := []
  rom := rom
  platform := platform
  faults := []
  neighbours := []
  collided := false
  unsynced := []
  hostCached := []
  hostDirty := []
  inbox := []
  reads := []
  returned := none
  draws := 0

/-- The block after power-on reset, as built. -/
def State.reset : State := State.powerOn Config.rom Config.platform

end Sys2Proof.Machine
end

