-- ==== Sys2Proof/Machine/Params.lean ====
section
/-! DEFINITION. The spec's numeric parameters (00_scope R7) and the address ranges of the platform (20_memory R60, R69,
R71; 60_exceptions R174). -/

namespace Sys2Proof.Machine

/-- `MAX_DEPTH` (00_scope R7). -/
def maxDepth : Nat := 16

/-- `2^ADDR_BITS` with `ADDR_BITS = 32` (00_scope R7). -/
def addressSpace : Nat := 2 ^ 32

/-- The length of the host register window in bytes (10_state R22). -/
def windowBytes : Nat := 256

/-- How far a step that takes free values moves their counter: more than any step uses (log 21). -/
def drawsPerStep : Nat := 32

/-- `SAMPLE_BYTES(depth)` (00_scope R7, 20_memory R62). -/
def sampleBytes (depth : Nat) : Nat := if depth ≤ 8 then 1 else 2

/-- The address lies in the range. -/
def spanContains (sp : Span) (a : Nat) : Bool := decide (sp.base ≤ a) && decide (a < sp.base + sp.size)

/-- The address lies in one of the ranges. -/
def anySpan (sps : List Span) (a : Nat) : Bool := sps.any fun sp => spanContains sp a

/-- This engine's own register window in the platform's address map (20_memory R60, R69). -/
def Platform.window (p : Platform) : Span := { base := p.regBase.toNat, size := windowBytes }

/-- The device ranges: the platform's, and this engine's own register window (20_memory R69). -/
def Platform.deviceSpans (p : Platform) : List Span := Platform.window p :: p.devices

/-- What answers at an address of the data space. -/
inductive AddressKind where
  | ram
  | device
  | unbacked
  | outside
  deriving DecidableEq, Repr

/-- What answers at an address (20_memory R60, R69, R70; 60_exceptions R174). -/
def Platform.kindOf (p : Platform) (a : Nat) : AddressKind :=
  if addressSpace ≤ a then .outside
  else if anySpan (Platform.deviceSpans p) a then .device
  else if anySpan p.unbacked a then .unbacked
  else .ram

/-- `BUS_ERROR(addr, is_write)` for one byte (60_exceptions R174). -/
def Platform.busError (p : Platform) (isWrite : Bool) (a : Nat) : Bool :=
  anySpan (if isWrite then p.writeErrors else p.readErrors) a

/-- The bytes of a container of `n` bytes at `a`. -/
def byteAddrs (a n : Nat) : List Nat := (List.range n).map fun k => a + k

end Sys2Proof.Machine
end

