-- ==== Sys2Proof/Machine/Operands.lean ====
section
/-! DEFINITION. Every operand form: the fields of DEPTH and FRAME_SIZE (30_encoding R81), the derived operands (R82), the
two buffers and their addresses (20_memory R66), their byte sets (42_transform_command R147), the layouts (R148), and the
validation of a command's operands (R142). -/

namespace Sys2Proof.Machine

/-- `S = DEPTH[4:0]` (42_transform_command R141). -/
def State.srcDepth (s : State) : Nat := (s.regs.depth.extractLsb' 0 5).toNat

/-- `T = DEPTH[12:8]` (42_transform_command R141). -/
def State.dstDepth (s : State) : Nat := (s.regs.depth.extractLsb' 8 5).toNat

/-- `W = FRAME_SIZE[15:0]` (42_transform_command R141). -/
def State.width (s : State) : Nat := (s.regs.frameSize.extractLsb' 0 16).toNat

/-- `H = FRAME_SIZE[31:16]` (42_transform_command R141). -/
def State.height (s : State) : Nat := (s.regs.frameSize.extractLsb' 16 16).toNat

/-- `r = S - T`, on mathematical integers (30_encoding R82). -/
def State.reduction (s : State) : Int := (s.srcDepth : Int) - (s.dstDepth : Int)

/-- `Bs` (00_scope R11). -/
def State.srcBytes (s : State) : Nat := sampleBytes s.srcDepth

/-- `Bd` (00_scope R11). -/
def State.dstBytes (s : State) : Nat := sampleBytes s.dstDepth

/-- The input buffer the registers describe (10_state R29, R30). -/
def State.srcBuffer (s : State) : Buffer where
  base := s.regs.srcBase.toNat
  stride := s.regs.srcStride.toNat
  width := s.width
  height := s.height
  bytes := s.srcBytes

/-- The output buffer the registers describe (10_state R31, R32). -/
def State.dstBuffer (s : State) : Buffer where
  base := s.regs.dstBase.toNat
  stride := s.regs.dstStride.toNat
  width := s.width
  height := s.height
  bytes := s.dstBytes

/-- Where the container of a sample starts: `base + y * stride + x * bytes` (20_memory R66). -/
def Buffer.addr (b : Buffer) (c : Coord) : Nat := b.base + c.y * b.stride + c.x * b.bytes

/-- `src_addr(x, y)` (20_memory R66). -/
def State.srcAddr (s : State) (c : Coord) : Nat := s.srcBuffer.addr c

/-- `dst_addr(x, y)` (20_memory R66). -/
def State.dstAddr (s : State) (c : Coord) : Nat := s.dstBuffer.addr c

/-- Two ranges of `m` and `n` bytes share a byte. -/
def rangesMeet (p m q n : Nat) : Bool := decide (max p q < min (p + m) (q + n))

/-- The first byte of row `y`. -/
def Buffer.rowBase (b : Buffer) (y : Nat) : Nat := b.base + y * b.stride

/-- The bytes of one row's containers, which lie side by side. -/
def Buffer.rowBytes (b : Buffer) : Nat := b.width * b.bytes

/-- The byte belongs to a container of the buffer: membership in `SrcBytes` or `DstBytes` (42_transform_command R147). -/
def Buffer.contains (b : Buffer) (a : Nat) : Bool :=
  (List.range b.height).any fun y => decide (b.rowBase y ≤ a) && decide (a < b.rowBase y + b.rowBytes)

/-- A container byte of the buffer lies in the range. -/
def Buffer.meetsSpan (b : Buffer) (sp : Span) : Bool :=
  (List.range b.height).any fun y => rangesMeet (b.rowBase y) b.rowBytes sp.base sp.size

/-- The byte sets of two buffers intersect. -/
def Buffer.overlaps (b c : Buffer) : Bool :=
  (List.range b.height).any fun y => (List.range c.height).any fun z =>
    rangesMeet (b.rowBase y) b.rowBytes (c.rowBase z) c.rowBytes

/-- Two busy instances collide: their outputs share a byte, or one's output and the other's input do
(70_reset_and_hazards R211). -/
def Neighbour.collides (m n : Neighbour) : Bool :=
  m.dst.overlaps n.dst || m.dst.overlaps n.src || n.dst.overlaps m.src

/-- The three layouts of an accepted command (42_transform_command R148). -/
inductive Layout where
  | identical
  | disjoint
  | overlapping
  deriving DecidableEq, Repr

/-- The layout of a pair of buffers (42_transform_command R148). -/
def layoutOf (src dst : Buffer) : Layout :=
  if src.base = dst.base ∧ src.stride = dst.stride ∧ src.bytes = dst.bytes then .identical
  else if src.overlaps dst then .overlapping
  else .disjoint

/-- The layout the registers describe. -/
def State.layout (s : State) : Layout := layoutOf s.srcBuffer s.dstBuffer

/-- A buffer's last byte lies at or above `2^ADDR_BITS` (42_transform_command R142); asked of non-empty frames. -/
def Buffer.pastEnd (b : Buffer) : Bool :=
  decide (addressSpace < b.base + (b.height - 1) * b.stride + b.rowBytes)

/-- A depth outside 1..MAX_DEPTH (42_transform_command R142). -/
def depthIllegal (d : Nat) : Bool := decide (d < 1) || decide (maxDepth < d)

/-- The configuration errors (42_transform_command R142, 60_exceptions R172). -/
def State.configError (s : State) : Bool :=
  depthIllegal s.srcDepth || depthIllegal s.dstDepth || decide (s.srcDepth < s.dstDepth) || decide (15 < s.reduction)

/-- The buffer contract violations (42_transform_command R142, 60_exceptions R173). -/
def State.bufferError (s : State) : Bool :=
  decide (s.regs.srcBase = 0#32) || decide (s.regs.dstBase = 0#32)
    || decide (s.srcBuffer.stride < s.srcBuffer.rowBytes) || decide (s.dstBuffer.stride < s.dstBuffer.rowBytes)
    || (decide (0 < s.width) && decide (0 < s.height) && (s.srcBuffer.pastEnd || s.dstBuffer.pastEnd))

/-- `validate()`: the first error found, configuration before buffer, or NONE (42_transform_command R142). -/
def State.validate (s : State) : ErrCode :=
  if s.configError then .config else if s.bufferError then .buffer else .none

/-- All coordinates of a frame, in row-major order (42_transform_command R140). -/
def frameCoords (w h : Nat) : List Coord :=
  (List.range h).flatMap fun y => (List.range w).map fun x => { x := x, y := y }

/-- The `r` field of the requests a command's sample steps make: `S - T` (30_encoding R82, R85). -/
def State.reductionField (s : State) : BitVec 4 := BitVec.ofNat 4 (s.srcDepth - s.dstDepth)

/-- The `T` field of those requests (30_encoding R85). -/
def State.targetField (s : State) : BitVec 5 := s.regs.depth.extractLsb' 8 5

/-- `x mod 8` or `y mod 8` as a 3-bit field (30_encoding R83, R85). -/
def tileField (n : Nat) : BitVec 3 := BitVec.ofNat 3 n

end Sys2Proof.Machine
end

