-- ==== Sys2Proof/Machine/Flags.lean ====
section
/-! DEFINITION. The flags of the block: STATUS as the host reads and writes it (10_state R24, R25), and the events that
set its bits (R26, 60_exceptions R170, R176). -/

namespace Sys2Proof.Machine

/-- The number of an error code (60_exceptions R170). -/
def ErrCode.code : ErrCode → BitVec 3
  | .none => 0#3
  | .illegalCommand => 1#3
  | .config => 2#3
  | .buffer => 3#3
  | .memFault => 4#3

/-- BUSY equals `PENDING != {}` (10_state R42). -/
def State.busy (s : State) : Bool := !s.pending.isEmpty

/-- FAULTED (10_state R45): a fault has been recorded. -/
def State.faulted (s : State) : Bool := !s.faults.isEmpty

/-- STATUS as the host reads it: BUSY 0, DONE 1, ERR 2, DROPPED 3, ERR_CODE 6:4, the rest 0 (10_state R24). -/
def State.statusWord (s : State) : Word :=
  0#25 ++ ErrCode.code s.status.errCode ++ BitVec.ofBool s.status.dropped ++ BitVec.ofBool s.status.err
    ++ BitVec.ofBool s.status.done ++ BitVec.ofBool s.busy

/-- A host write of STATUS: write 1 to clear DONE, ERR with ERR_CODE, DROPPED (10_state R25); the return from an error is
the write of bit 2 (60_exceptions R177). -/
def Status.write (st : Status) (w : Word) : Status where
  done := if w.getLsbD 1 then false else st.done
  err := if w.getLsbD 2 then false else st.err
  dropped := if w.getLsbD 3 then false else st.dropped
  errCode := if w.getLsbD 2 then .none else st.errCode

/-- A host write of STATUS, in any engine state (10_state R25). -/
def State.writeStatus (s : State) (w : Word) : State := { s with status := s.status.write w }

/-- DONE is set (42_transform_command R145, R150). -/
def State.setDone (s : State) : State := { s with status := { s.status with done := true } }

/-- DROPPED is set (10_state R35). -/
def State.setDropped (s : State) : State := { s with status := { s.status with dropped := true } }

/-- `raise Err(e)`, the entry of an error: ERR is set, ERR_CODE takes the code, nothing else changes
(42_transform_command R144, 60_exceptions R176). -/
def State.raiseErr (s : State) (e : ErrCode) : State := { s with status := { s.status with err := true, errCode := e } }

/-- `fault(reason)` where the machine goes on: the reason is recorded and never cleared (10_state R45). -/
def State.recordFault (s : State) (f : Fault) : State :=
  { s with faults := if s.faults.contains f then s.faults else s.faults ++ [f] }

/-- `recordFault` under a condition. -/
def State.recordIf (s : State) (c : Bool) (f : Fault) : State := if c then s.recordFault f else s

end Sys2Proof.Machine
end

