-- ==== Sys2Proof/Machine/Memory.lean ====
section
/-! DEFINITION. Memory as a list of address and byte in one canonical form: addresses strictly rising and inside the
2^32-byte data space (20_memory R60). An unlisted address was never written and reads as no value here; the machine's
read of it is the free value of its address (log 4). -/

namespace Sys2Proof.Machine

/-- The byte written at an address, if any. -/
def Memory.read : List Host.Cell → Nat → Option Byte
  | [], _ => none
  | (k, b) :: m, a => if k = a then some b else Memory.read m a

/-- Memory with one byte written. -/
def Memory.write : List Host.Cell → Nat → Byte → List Host.Cell
  | [], a, b => [(a, b)]
  | (k, c) :: m, a, b =>
    if a < k then (a, b) :: (k, c) :: m
    else if a = k then (a, b) :: m
    else (k, c) :: Memory.write m a b

/-- Every address is at least `lo`, and below the one after it. -/
def Memory.rising : Nat → List Host.Cell → Bool
  | _, [] => true
  | lo, (k, _) :: m => decide (lo ≤ k) && Memory.rising (k + 1) m

/-- The canonical form. -/
def Memory.wf (m : List Host.Cell) : Bool := Memory.rising 0 m && m.all fun c => decide (c.1 < 2 ^ 32)

end Sys2Proof.Machine
end

