-- ==== Sys2Proof/Machine/Ops.lean ====
section
/-! DEFINITION. The named operations over memory and registers: the engine's and the host's reads and writes of a byte and
of a container (20_memory R63 to R65, R68, R73, R74, R77; 60_exceptions R174), the register window (10_state R22 to R36),
the layouts whose outputs are free (42_transform_command R156), and the ends of a command: completion (R150), abort
(R152) and reset (70_reset_and_hazards R200, R201). Errors at issue are `State.raiseErr` of Machine/Flags.lean. -/

namespace Sys2Proof.Machine

/-! ### Bytes -/

/-- The byte memory holds at an address; one that was never written holds its power-on value, which is free (log 4). -/
def State.peek (s : State) (a : Nat) : Byte := (Memory.read s.mem a).getD (Config.powerOnByte a)

/-- The older bytes an agent may still see at an address. -/
def olderBytes (stale : List Host.Cell) (a : Nat) : List Byte :=
  stale.filterMap fun c => if c.1 = a then some c.2 else none

/-- An agent sees the current byte or any older one it may still see (20_memory R68, R74, R77): `pick` says which. -/
def oldOrNew (cur : Byte) (older : List Byte) (pick : Nat) : Byte :=
  match older with
  | [] => cur
  | o :: os => (cur :: o :: os).getD (pick % ((o :: os).length + 1)) cur

/-- What the engine reads at an address, `slot` telling apart the free values of one step: the current byte, or an older
one under a host write that was not cleaned (20_memory R77); where no ordinary memory answers and the platform answers with
data, a draw (60_exceptions R174). -/
def State.engineByte (s : State) (slot a : Nat) : Byte :=
  match Platform.kindOf s.platform a with
  | .ram => oldOrNew (s.peek a) (olderBytes s.hostDirty a) (Config.freeIndex (s.draws + slot))
  | _ => Config.freeByte (s.draws + slot)

/-- What the host reads at an address on its own path: the current byte, or an older one under an engine write it need
not see yet (20_memory R68, R74, R77); where no ordinary memory answers, a free value (log 14, 15). -/
def State.hostByte (s : State) (slot a : Nat) : Byte :=
  match Platform.kindOf s.platform a with
  | .ram => oldOrNew (s.peek a) (olderBytes (s.unsynced ++ s.hostCached) a) (Config.freeIndex (s.draws + slot))
  | _ => Config.freeByte (s.draws + slot)

/-- The cells of a view that are not at an address. -/
def dropCell (cells : List Host.Cell) (a : Nat) : List Host.Cell := cells.filter fun c => c.1 != a

/-- One byte written by the engine: memory takes it, the host need not see it yet (20_memory R74), and a host write of the
same byte that was not cleaned is over (R77). Where nothing backs the address, nothing is kept. -/
def State.engineStoreByte (s : State) (a : Nat) (b : Byte) : State :=
  match Platform.kindOf s.platform a with
  | .ram =>
    { s with
      mem := Memory.write s.mem a b
      unsynced := s.unsynced ++ [(a, s.peek a)]
      hostDirty := dropCell s.hostDirty a }
  | _ => s

/-- One byte written by the host on its own path: memory takes it, the host sees it, and on a platform that is not
coherent the engine need not see it before it is cleaned (20_memory R73, R77). -/
def State.hostStoreByte (s : State) (a : Nat) (b : Byte) : State :=
  match Platform.kindOf s.platform a with
  | .ram =>
    { s with
      mem := Memory.write s.mem a b
      unsynced := dropCell s.unsynced a
      hostCached := dropCell s.hostCached a
      hostDirty := if s.platform.coherent then s.hostDirty else s.hostDirty ++ [(a, s.peek a)] }
  | _ => s

/-- One byte written by another instance (60_exceptions R182): memory takes it. DESIGN CHOICE (log 23): the write adds no
older byte to the views of this block's host and engine, and the older bytes they may still see stay, so that each reads the
new byte or one of those. DESIGN CHOICE (log 23): a write whose address lies in a device, this block's register window among
them, or where nothing backs it, changes nothing of this block and records nothing (20_memory R69 leaves it to the
platform). -/
def State.neighbourStoreByte (s : State) (a : Nat) (b : Byte) : State :=
  match Platform.kindOf s.platform a with
  | .ram => { s with mem := Memory.write s.mem a b }
  | _ => s

/-! ### Containers: little-endian (20_memory R63) -/

/-- `zext_16(MemRead(a, n))` for a container of 1 or 2 bytes (20_memory R63, R64). -/
def State.engineLoad (s : State) (a n : Nat) : Sample :=
  if n = 1 then (s.engineByte 0 a).zeroExtend 16 else s.engineByte 1 (a + 1) ++ s.engineByte 0 a

/-- `MemWrite(a, n, v)` for a container of 1 or 2 bytes (20_memory R63, R65). -/
def State.engineStore (s : State) (a n : Nat) (v : Sample) : State :=
  if n = 1 then s.engineStoreByte a (v.extractLsb' 0 8)
  else (s.engineStoreByte a (v.extractLsb' 0 8)).engineStoreByte (a + 1) (v.extractLsb' 8 8)

/-- A container value of this step that the spec leaves open. -/
def State.freeSample (s : State) : Sample := Config.freeByte (s.draws + 3) ++ Config.freeByte (s.draws + 2)

/-- The k-th 32-bit value of this step that the spec leaves open. -/
def State.freeWord (s : State) (k : Nat) : Word :=
  Config.freeByte (s.draws + 4 * k + 3) ++ Config.freeByte (s.draws + 4 * k + 2) ++ Config.freeByte (s.draws + 4 * k + 1)
    ++ Config.freeByte (s.draws + 4 * k)

/-- A byte of an access answers with a bus error (60_exceptions R174). -/
def State.accessErrs (s : State) (isWrite : Bool) (a n : Nat) : Bool :=
  (byteAddrs a n).any fun b => Platform.busError s.platform isWrite b

/-- A byte of an access lies in a device region (20_memory R69). -/
def State.accessHitsDevice (s : State) (a n : Nat) : Bool :=
  (byteAddrs a n).any fun b => Platform.kindOf s.platform b == .device

/-- A byte of an access lies outside the data space (20_memory R60). -/
def State.accessOutside (s : State) (a n : Nat) : Bool :=
  (byteAddrs a n).any fun b => Platform.kindOf s.platform b == .outside

/-- Why an engine access is no access to memory the spec describes, if so. -/
def State.accessFault (s : State) (a n : Nat) : Option Fault :=
  if s.accessOutside a n then some .addressOutsideSpace
  else if s.accessHitsDevice a n then some .bufferInDeviceRegion
  else none

/-- The counter of free values moves on. -/
def State.tick (s : State) : State := { s with draws := s.draws + drawsPerStep }

/-- The events still to come. -/
def State.setInbox (s : State) (l : List Event) : State := { s with inbox := l }

/-! ### Commands: what is pending, what is free, how a command ends -/

/-- The pending coordinate a choice names (42_transform_command R149: the choice is free). -/
def pickCoord (k : Nat) (c : Coord) (cs : List Coord) : Coord :=
  match cs with
  | [] => c
  | d :: ds => (c :: d :: ds).getD (k % ((d :: ds).length + 1)) c

/-- The outputs of the command in progress are free: its layout is OVERLAPPING (42_transform_command R156), or it has met
another instance's buffers (70_reset_and_hazards R211; log 8). No earlier command matters (10_state R43). -/
def State.contended (s : State) : Bool := s.layout == .overlapping || s.collided

/-- Buffer bytes fall in a device region (20_memory R69). -/
def State.buffersMeetDevice (s : State) : Bool :=
  (Platform.deviceSpans s.platform).any fun sp => s.srcBuffer.meetsSpan sp || s.dstBuffer.meetsSpan sp

/-- This instance's buffers collide with another's (70_reset_and_hazards R211). -/
def State.collidesWith (s : State) (n : Neighbour) : Bool :=
  Neighbour.collides { src := s.srcBuffer, dst := s.dstBuffer } n

/-- `PENDING <- PENDING \ {c}`; the last one completes the command in the same step (42_transform_command R149, R150). -/
def State.finishSample (s : State) (c : Coord) : State :=
  match s.pending.filter fun d => d != c with
  | [] => { s with pending := [], status := { s.status with done := true } }
  | d :: ds => { s with pending := d :: ds }

/-- The container in flight when a command ends early may hold any bytes (42_transform_command R152,
70_reset_and_hazards R201). -/
def State.scramble (s : State) (c : Coord) : State := s.engineStore (s.dstAddr c) s.dstBytes s.freeSample

/-- A command ends on a bus error: PENDING and BUSY are cleared, MEM_FAULT is raised, DONE is unchanged
(42_transform_command R152, 60_exceptions R174). -/
def State.raiseMemFault (s : State) : State :=
  { s.raiseErr .memFault with pending := [], draws := s.draws + drawsPerStep }

/-- The abort of a command with container `c` in flight (42_transform_command R152). -/
def State.abort (s : State) (c : Coord) : State := (s.scramble c).raiseMemFault

/-- The read of a coordinate's input container answers with a bus error (60_exceptions R174). -/
def State.readErrs (s : State) (c : Coord) : Bool := s.accessErrs false (s.srcAddr c) s.srcBytes

/-- The pending coordinates whose write may be in flight: those whose read can have been done, since it comes before the
write (20_memory R72). -/
def State.inFlight (s : State) : List Coord := s.pending.filter fun c => !s.readErrs c

/-- A command ends while samples may be under way: the container in flight, any of those, may hold any bytes, and where
none may be in flight nothing changes (42_transform_command R152, 70_reset_and_hazards R201; log 10, 11). -/
def State.scrambleInFlight (s : State) : State :=
  match s.inFlight with
  | [] => s
  | c :: cs => s.scramble (pickCoord (Config.freeIndex (s.draws + 4)) c cs)

/-- The abort of a command on a bus error of a read (42_transform_command R152): the coordinate that failed is none of those
whose write may be in flight. -/
def State.abortOnRead (s : State) : State := s.scrambleInFlight.raiseMemFault

/-- The reset input (70_reset_and_hazards R200, R201): the registers take their reset values, PENDING is empty; tables,
recorded faults and memory stay, but for the container in flight. -/
def State.assertReset (s : State) : State :=
  { s.scrambleInFlight with
    regs := Regs.reset, status := Status.reset, pending := [], collided := false, draws := s.draws + drawsPerStep }

/-! ### The register window -/

/-- A register access is 32 bits wide at a multiple of 4 (10_state R33). -/
def accessSupported (bytes : Nat) (off : BitVec 8) : Bool := decide (bytes = 4) && decide (off.toNat % 4 = 0)

/-- The registers by name (10_state R22). -/
inductive Reg where
  | cmd
  | status
  | depth
  | frameSize
  | srcBase
  | srcStride
  | dstBase
  | dstStride
  deriving DecidableEq, Repr

/-- A register's offset (10_state R22). -/
def Reg.offset : Reg → BitVec 8
  | .cmd => 0x00#8
  | .status => 0x04#8
  | .depth => 0x08#8
  | .frameSize => 0x0C#8
  | .srcBase => 0x10#8
  | .srcStride => 0x14#8
  | .dstBase => 0x18#8
  | .dstStride => 0x1C#8

/-- The register at an offset; none at a reserved offset (10_state R22, R34). -/
def regAt (off : BitVec 8) : Option Reg :=
  [Reg.cmd, .status, .depth, .frameSize, .srcBase, .srcStride, .dstBase, .dstStride].find? fun r => r.offset == off

/-- The bits of DEPTH that are stored (10_state R27). -/
def depthMask : Word := 0x00001F1F#32

/-- What the host reads from a register (10_state R23, R24, R27 to R32). -/
def State.readReg (s : State) : Reg → Word
  | .cmd => 0#32
  | .status => s.statusWord
  | .depth => s.regs.depth
  | .frameSize => s.regs.frameSize
  | .srcBase => s.regs.srcBase
  | .srcStride => s.regs.srcStride
  | .dstBase => s.regs.dstBase
  | .dstStride => s.regs.dstStride

/-- What the host reads at an offset; reserved offsets read 0 (10_state R34). -/
def State.readOffset (s : State) (off : BitVec 8) : Word :=
  match regAt off with
  | some r => s.readReg r
  | none => 0#32

/-- The configuration registers with one written, reserved bits forced to 0 (10_state R35). CMD and STATUS are not among
them. -/
def Regs.write (g : Regs) (r : Reg) (w : Word) : Regs :=
  match r with
  | .cmd => g
  | .status => g
  | .depth => { g with depth := w &&& depthMask }
  | .frameSize => { g with frameSize := w }
  | .srcBase => { g with srcBase := w }
  | .srcStride => { g with srcStride := w }
  | .dstBase => { g with dstBase := w }
  | .dstStride => { g with dstStride := w }

/-- A host write of a configuration register: dropped while BUSY (10_state R35). -/
def State.writeConfig (s : State) (r : Reg) (w : Word) : State :=
  if s.busy then s.setDropped else { s with regs := s.regs.write r w }

/-- A STATUS read that returns BUSY = 0 makes every engine write visible to the host (20_memory R74, R75); on a platform
that is not coherent the host's cache may still hold older bytes (R77). -/
def State.syncHost (s : State) : State :=
  { s with
    unsynced := []
    hostCached := if s.platform.coherent then s.hostCached else s.hostCached ++ s.unsynced }

/-- What a host read of an offset does besides returning a value: nothing, but for the synchronisation above, which is no
state of the engine (10_state R36). -/
def State.afterRead (s : State) (off : BitVec 8) : State :=
  if off = Reg.offset .status ∧ s.busy = false then s.syncHost else s

end Sys2Proof.Machine
end

