-- ==== Sys2Proof/Machine/Lookup.lean ====
section
/-! DEFINITION. The two lookup units and the level map (40_lookup_units R100 to R109): pure functions of the tables, and
the meanings of PATTERN_LOOKUP and SCALE_LOOKUP over them. -/

namespace Sys2Proof.Machine

/-- `DITHER_PATTERN[y][x]`: the entry of dither_pattern_lut at row `y`, column `x` (10_state R37, 40_lookup_units R100). -/
def Rom.patternAt (m : Rom) (y x : BitVec 3) : BitVec 4 := (m.pattern[y.toNat]'y.isLt)[x.toNat]'x.isLt

/-- `LEVEL_MAP(d)` (10_state R40). -/
def Rom.levelAt (m : Rom) (d : BitVec 4) : BitVec 4 := m.levelMap[d.toNat]'d.isLt

/-- `DEPTH_SCALE[r][l]` for a row `r` that exists (10_state R38): the table has no row 0. -/
def Rom.scaleAt (m : Rom) (r : BitVec 4) (l : BitVec 4) (h : r ≠ 0#4) : Sample :=
  (m.scale[r.toNat - 1]'(by
    have h1 : r.toNat < 16 := r.isLt
    have h2 : r.toNat ≠ 0 := fun e => h (BitVec.eq_of_toNat_eq (by simpa using e))
    omega))[l.toNat]'l.isLt

/-- `PATTERN_LOOKUP` (40_lookup_units R100): pure, no failure mode. -/
def patternLookup (m : Rom) (y x : BitVec 3) : BitVec 4 := Rom.patternAt m y x

/-- `SCALE_LOOKUP(r, l)` (40_lookup_units R104): row 0 is reserved. -/
def scaleLookup (m : Rom) (r l : BitVec 4) : Except Fault Sample :=
  if h : r = 0#4 then .error .scaleRowZero else .ok (Rom.scaleAt m r l h)

/-- A sub-block request returns a value (log 16); nothing else changes, since the units have no state (40_lookup_units
R109, 41_quantizer R127). -/
def State.setReturned (s : State) (v : Sample) : State := { s with returned := some v }

/-- The outcome of a sub-block request: it returns its value; a request the spec calls reserved or illegal records its
fault (10_state R45) and returns a free value, since it has no result (log 18). -/
def answer (r : Except Fault Sample) (s : State) : Host.Outcome State Fault Refusal :=
  match r with
  | .ok v => .next (s.setReturned v)
  | .error f => .next ((s.recordFault f).setReturned s.freeSample).tick

/-- PATTERN_LOOKUP at row `y`, column `x` (40_lookup_units R100): the 4-bit entry, zero-extended. -/
def execPatternLookup (y x : BitVec 3) (s : State) : Host.Outcome State Fault Refusal :=
  answer (.ok ((patternLookup s.rom y x).zeroExtend 16)) s

/-- SCALE_LOOKUP at row `r`, column `l` (40_lookup_units R104). -/
def execScaleLookup (r l : BitVec 4) (s : State) : Host.Outcome State Fault Refusal :=
  answer (scaleLookup s.rom r l) s

end Sys2Proof.Machine
end

