-- ==== Sys2Proof/Machine/Quantizer.lean ====
section
/-! DEFINITION. The per-sample datapath (41_quantizer R120 to R130) and the meaning of QUANTIZE over it. -/

namespace Sys2Proof.Machine

/-- The conditions of QUANT_REQ (30_encoding R85): `1 <= T <= 16` and `T + R <= 16`. -/
def quantLegal (t : BitVec 5) (r : BitVec 4) : Bool :=
  decide (1 ≤ t.toNat) && decide (t.toNat ≤ maxDepth) && decide (t.toNat + r.toNat ≤ maxDepth)

/-- The largest value of a depth: `2^T - 1`. -/
def depthMax (t : Nat) : Nat := 2 ^ t - 1

/-- Add, shift, clamp (41_quantizer R124), on integers: `min((v + bias) >> r, 2^T - 1)`; it fits 16 bits (R125). -/
def addShiftClamp (v bias : Sample) (r t : Nat) : Sample :=
  BitVec.ofNat 16 (min ((v.toNat + bias.toNat) >>> r) (depthMax t))

/-- `QUANTIZE(v, x, y, r, T)` (41_quantizer R120): pass-through when `r = 0` (R121), else pattern (R122), level map and
scale (R123), add, shift and clamp (R124). -/
def quantize (m : Rom) (t : BitVec 5) (r : BitVec 4) (y x : BitVec 3) (v : Sample) : Except Fault Sample :=
  if quantLegal t r then
    if r = 0#4 then .ok v
    else
      match scaleLookup m r (Rom.levelAt m (patternLookup m y x)) with
      | .ok bias => .ok (addShiftClamp v bias r.toNat t.toNat)
      | .error f => .error f
  else .error .badQuantRequest

/-- QUANTIZE (41_quantizer R120). -/
def execQuantize (t : BitVec 5) (r : BitVec 4) (y x : BitVec 3) (v : Sample) (s : State) :
    Host.Outcome State Fault Refusal :=
  answer (quantize s.rom t r y x v) s

end Sys2Proof.Machine
end

