-- ==== Sys2Proof/Machine/Transform.lean ====
section
/-! DEFINITION. TRANSFORM: the issue of a command (42_transform_command R140 to R145, R148, R156, R160). Its sample steps
are the engine's own, in Machine/Sequencer.lean. -/

namespace Sys2Proof.Machine

/-- The model faults an accepted command records (42_transform_command R156, 20_memory R69, 70_reset_and_hazards R211);
the hardware checks none of them and runs the command. -/
def State.recordAcceptance (s : State) : State :=
  ((s.recordIf (s.layout == .overlapping) .bufferOverlap).recordIf s.buffersMeetDevice .bufferInDeviceRegion).recordIf
    (s.neighbours.any s.collidesWith) .concurrentInstanceOverlap

/-- Acceptance: PENDING takes every coordinate of the frame, which makes BUSY 1; DONE, ERR, ERR_CODE, DROPPED and memory
keep their values (42_transform_command R143). -/
def State.accept (s : State) : State :=
  { s.recordAcceptance with
    pending := frameCoords s.width s.height
    collided := s.neighbours.any s.collidesWith }

/-- An idle engine is given TRANSFORM (42_transform_command R140): reject (R144), empty frame (R145) or accept (R143). -/
def State.issueTransform (s : State) : State :=
  match s.validate with
  | .none => if s.width = 0 ∨ s.height = 0 then s.setDone else s.accept
  | e => s.raiseErr e

/-- TRANSFORM, the command word 0x00000001 written to CMD: dropped while BUSY (10_state R23, R35; 42_transform_command
R160), else issued. -/
def execTransform (s : State) : Host.Outcome State Fault Refusal :=
  .next (if s.busy then s.setDropped else s.issueTransform)

/-- Any other command word written to CMD: dropped while BUSY (10_state R35), else ILLEGAL_COMMAND, which touches no
memory and keeps nothing of the word (30_encoding R87, 60_exceptions R171). -/
def illegalCommand (s : State) : Host.Outcome State Fault Refusal :=
  .next (if s.busy then s.setDropped else s.raiseErr .illegalCommand)

end Sys2Proof.Machine
end

