-- ==== Sys2Proof/Machine/Dispatch.lean ====
section
/-! DEFINITION. One arm per operation: which meaning it has. -/

namespace Sys2Proof.Machine

/-- The meaning of each operation (30_encoding R86). -/
def exec (i : Instr) (s : State) : Host.Outcome State Fault Refusal :=
  match i with
  | .transform => Sys2Proof.Machine.execTransform s
  | .patternLookup y x => Sys2Proof.Machine.execPatternLookup y x s
  | .scaleLookup r l => Sys2Proof.Machine.execScaleLookup r l s
  | .quantize t r y x v => Sys2Proof.Machine.execQuantize t r y x v s

end Sys2Proof.Machine
end

