-- ==== Sys2Proof/Machine/Sequencer.lean ====
section
/-! DEFINITION. The frame sequencer: one sample step of the command in progress (42_transform_command R149), which ends
in completion (R150) or, on a bus error, in the abort (R152). -/

namespace Sys2Proof.Machine

/-- The QUANTIZE request of one sample (30_encoding R85). The engine makes only legal requests (40_lookup_units R105);
with depths that no accepted command has, `S < T` or `S > 16`, there is none. -/
def State.quantizeSample (s : State) (c : Coord) (v : Sample) : Except Fault Sample :=
  if s.srcDepth < s.dstDepth ∨ maxDepth < s.srcDepth then .error .badQuantRequest
  else quantize s.rom s.targetField s.reductionField (tileField c.y) (tileField c.x) v

/-- The write of a sample, after its read and its quantizing: the container takes the result (a free value where the
outputs are free), and the coordinate leaves PENDING. -/
def State.writeSample (s : State) (c : Coord) (out : Sample) : State :=
  ((s.engineStore (s.dstAddr c) s.dstBytes (if s.contended then s.freeSample else out)).finishSample c).tick

/-- The write access of a sample: a bus error aborts the command with the sample's own container in flight
(42_transform_command R152). -/
def writeAccess (c : Coord) (out : Sample) (s : State) : Host.Outcome State Fault Refusal :=
  if s.accessErrs true (s.dstAddr c) s.dstBytes then .next (s.abort c)
  else
    match s.accessFault (s.dstAddr c) s.dstBytes with
    | some f => .fault f
    | none => .next (s.writeSample c out)

/-- One sample step (42_transform_command R149): read the input container, quantize, write the output container, take the
coordinate out of PENDING. A bus error on either access aborts the command (R152, 60_exceptions R174). A request the engine
never makes (40_lookup_units R105) would record its fault and write a free value. -/
def sampleStep (c : Coord) (s : State) : Host.Outcome State Fault Refusal :=
  if s.readErrs c then .next s.abortOnRead
  else
    match s.accessFault (s.srcAddr c) s.srcBytes with
    | some f => .fault f
    | none =>
      match s.quantizeSample c (s.engineLoad (s.srcAddr c) s.srcBytes) with
      | .error f => writeAccess c s.freeSample (s.recordFault f)
      | .ok out => writeAccess c out s

/-- A turn of the engine agent: a sample step for the pending coordinate the choice names, a free one where it names none
(42_transform_command R149); an idle engine does nothing (60_exceptions R184). -/
def engineTurn (choice : Option Nat) (s : State) : Host.Outcome State Fault Refusal :=
  match s.pending with
  | [] => .next s
  | c :: cs => sampleStep (pickCoord (choice.getD (Config.freeIndex (s.draws + 5))) c cs) s

end Sys2Proof.Machine
end

