-- ==== Sys2Proof/Machine/HostPort.lean ====
section
/-! DEFINITION. What each event does: the host's accesses (30_encoding R89, 10_state R22 to R36, 20_memory R68 to R77), a
word at a port (30_encoding R86), the reset input (70_reset_and_hazards R200), the turns of the engine, and the other
instances (60_exceptions R182, 70_reset_and_hazards R211). -/

namespace Sys2Proof.Machine

/-- A word at the port of its format: decoded and executed. A CMD word that is no operation is ILLEGAL_COMMAND, a
QUANT_REQ that is none records the fault `bad_quant_request` (30_encoding R87). -/
def runRequest (q : Request) (s : State) : Host.Outcome State Fault Refusal :=
  match decode q with
  | .ok i => exec i s
  | .error (.illegalCommand _) => illegalCommand s
  | .error (.quantReservedBit _) => answer (.error .badQuantRequest) s

/-- A 32-bit host write at an aligned offset (10_state R23, R25, R34, R35). -/
def writeOffset (off : BitVec 8) (w : Word) (s : State) : Host.Outcome State Fault Refusal :=
  match regAt off with
  | some .cmd => runRequest (.cmd32 w) s
  | some .status => .next (s.writeStatus w)
  | some r => .next (s.writeConfig r w)
  | none => .next s

/-- The host records what a read returned (log 16). -/
def State.recordRead (s : State) (v : Word) : State := { s with reads := s.reads ++ [v] }

/-- A 32-bit host read at an aligned offset (10_state R36). -/
def readOffsetStep (off : BitVec 8) (s : State) : Host.Outcome State Fault Refusal :=
  .next ((s.afterRead off).recordRead (s.readOffset off))

/-- The state a write leaves; every write answers a next state. -/
def nextOr (s : State) (o : Host.Outcome State Fault Refusal) : State :=
  match o with
  | .next t => t
  | _ => s

/-- The k-th free offset of this step: any multiple of 4 in the window. -/
def State.freeOffset (s : State) (k : Nat) : BitVec 8 := BitVec.ofNat 6 (Config.freeIndex (s.draws + k)) ++ 0#2

/-- `n` 32-bit writes, each of a free word at a free offset; one at a reserved offset does nothing. -/
def State.freeWrites : Nat → State → State
  | 0, s => s
  | n + 1, s => nextOr (s.freeWrites n) (writeOffset (s.freeOffset n) (s.freeWord n) (s.freeWrites n))

/-- A write that is no supported access has no defined effect (10_state R33): the fault is recorded, and the registers take
up to eight writes that are free in place, order and word (log 31). -/
def unsupportedWrite (s : State) : Host.Outcome State Fault Refusal :=
  .next ((s.recordFault .unsupportedRegisterAccess).freeWrites 8).tick

/-- A read that is no supported access: the fault is recorded, and what is returned, `v`, is a free value (10_state R33;
log 31). -/
def unsupportedRead (v : Word) (s : State) : Host.Outcome State Fault Refusal :=
  .next ((s.recordFault .unsupportedRegisterAccess).recordRead v).tick

/-- One read of a poll: it ends when the value matches, else the engine has a turn, a free one, and the poll reads again
(30_encoding R89, 42_transform_command R151; log 22). -/
def pollStep (off : BitVec 8) (mask val : Word) (s : State) : Host.Outcome State Fault Refusal :=
  if s.readOffset off &&& mask = val then readOffsetStep off s
  else .next ((s.afterRead off).setInbox (.engineTurn none :: .poll off mask val :: s.inbox))

/-- One read of a poll at an offset that is no multiple of 4: each such read is an unsupported one. -/
def unsupportedPoll (off : BitVec 8) (mask val : Word) (s : State) : Host.Outcome State Fault Refusal :=
  if s.freeWord 0 &&& mask = val then unsupportedRead (s.freeWord 0) s
  else
    .next ((s.recordFault .unsupportedRegisterAccess).setInbox (.engineTurn none :: .poll off mask val :: s.inbox)).tick

/-- The address lies in this block's register window: a byte access there is a register access narrower than 32 bits
(10_state R33; log 15). -/
def State.inWindow (s : State) (a : Nat) : Bool := spanContains (Platform.window s.platform) a

/-- The address lies in another device of the platform, of which the spec says nothing (log 15). -/
def State.inOtherDevice (s : State) (a : Nat) : Bool := anySpan s.platform.devices a

/-- The byte belongs to the buffers of the command in progress (70_reset_and_hazards R210). -/
def State.inBusyBuffer (s : State) (a : Nat) : Bool :=
  s.busy && (s.srcBuffer.contains a || s.dstBuffer.contains a)

/-- A host memory byte write (30_encoding R89). While BUSY, a write to a byte of the command's buffers is a race: the fault
is recorded, wherever the byte lies, and the byte is free (70_reset_and_hazards R210; log 9). DESIGN CHOICE (log 9): where
it lies in the register window the access is an unsupported one as well, and in another device or where nothing backs it the
write leaves nothing. A write to any other byte of another device is refused (log 15). DESIGN CHOICE (log 30): the spec gives BUS_ERROR for
the engine's sample accesses only (60_exceptions R174), and the host's own path never fails on it. -/
def memWriteStep (a : Word) (b : Byte) (s : State) : Host.Outcome State Fault Refusal :=
  if s.inWindow a.toNat then unsupportedWrite (s.recordIf (s.inBusyBuffer a.toNat) .hostWriteToBusyBuffer)
  else if s.inBusyBuffer a.toNat then
    .next ((s.recordFault .hostWriteToBusyBuffer).hostStoreByte a.toNat (Config.freeByte s.draws)).tick
  else if s.inOtherDevice a.toNat then .refused .hostDeviceAccess
  else .next (s.hostStoreByte a.toNat b)

/-- A host memory byte read (30_encoding R89, 20_memory R68, R74). While BUSY, a read of a byte of the command's buffers is
allowed (70_reset_and_hazards R210): in another device it returns a free value, as the spec says nothing of what the device
answers (log 15), and a read of any other byte of a device is refused. DESIGN CHOICE (log 30): BUS_ERROR is for the engine's
sample accesses only (60_exceptions R174), and the host's own path never fails on it. -/
def memReadStep (a : Word) (s : State) : Host.Outcome State Fault Refusal :=
  if s.inWindow a.toNat then unsupportedRead ((Config.freeByte s.draws).zeroExtend 32) s
  else if s.inOtherDevice a.toNat && !s.inBusyBuffer a.toNat then .refused .hostDeviceAccess
  else .next ((s.recordRead ((s.hostByte 0 a.toNat).zeroExtend 32)).tick)

/-- The host cleans a range: its writes there have reached memory (20_memory R77). -/
def State.cleanRange (s : State) (sp : Span) : State :=
  { s with hostDirty := s.hostDirty.filter fun c => !spanContains sp c.1 }

/-- The host invalidates a range: its cached copies there are gone (20_memory R77). -/
def State.invalidateRange (s : State) (sp : Span) : State :=
  { s with hostCached := s.hostCached.filter fun c => !spanContains sp c.1 }

/-- Another instance becomes busy while this one is, and their buffers collide. -/
def State.meets (s : State) (n : Neighbour) : Bool := s.busy && s.collidesWith n

/-- Another instance becomes busy; a collision with this one, or with any other that is busy, is recorded
(70_reset_and_hazards R211). -/
def State.addNeighbour (s : State) (n : Neighbour) : State :=
  { s.recordIf (s.meets n || s.neighbours.any fun m => Neighbour.collides m n) .concurrentInstanceOverlap with
    neighbours := s.neighbours ++ [n]
    collided := s.collided || s.meets n }

/-- Another instance becomes idle. -/
def State.dropNeighbour (s : State) (k : Nat) : State := { s with neighbours := s.neighbours.eraseIdx k }

/-- A busy other instance writes a byte of its output buffer; it writes nowhere else (20_memory R61). -/
def State.neighbourWrites (s : State) (k a : Nat) (b : Byte) : State :=
  match s.neighbours[k]? with
  | some n => if n.dst.contains a then s.neighbourStoreByte a b else s
  | none => s

/-- What an event does. -/
def handle (e : Event) (s : State) : Host.Outcome State Fault Refusal :=
  match e with
  | .regWrite bytes off w =>
    if accessSupported bytes off then writeOffset off w s else unsupportedWrite s
  | .regRead bytes off => if accessSupported bytes off then readOffsetStep off s else unsupportedRead (s.freeWord 0) s
  | .poll off mask val => if accessSupported 4 off then pollStep off mask val s else unsupportedPoll off mask val s
  | .memWrite a b => memWriteStep a b s
  | .memRead a => memReadStep a s
  | .cacheClean sp => .next (s.cleanRange sp)
  | .cacheInvalidate sp => .next (s.invalidateRange sp)
  | .reset => .next s.assertReset
  | .engineTurn choice => engineTurn choice s
  | .request q => runRequest q s
  | .neighbourBusy n => .next (s.addNeighbour n)
  | .neighbourIdle k => .next (s.dropNeighbour k)
  | .neighbourWrite k a b => .next (s.neighbourWrites k a.toNat b)

/-- One step: the next event reaches the block; with none left, the engine moves (42_transform_command R151), and an idle
engine does nothing (60_exceptions R184). -/
def advance (s : State) : Host.Outcome State Fault Refusal :=
  match s.inbox with
  | [] => engineTurn none s
  | e :: rest => handle e (s.setInbox rest)

/-- The word an event brings to a port, if any: a 32-bit write of CMD is a CMD32 word (30_encoding R80). -/
def Event.request? : Event → Option Request
  | .regWrite bytes off w => if bytes = 4 ∧ off = Reg.offset .cmd then some (.cmd32 w) else none
  | .request q => some q
  | _ => none

/-- The word the next step brings to a port, if any: what the machine "fetches" (log 5). -/
def State.fetched (s : State) : Option Request :=
  match s.inbox with
  | [] => none
  | e :: _ => Event.request? e

/-- The state after the next event has been taken from the inbox. -/
def State.popInbox (s : State) : State := s.setInbox s.inbox.tail

/-- The event that brings a word to its port: the host's write of CMD for a CMD32 word, else a request. -/
def requestEvent : Request → Event
  | .cmd32 w => .regWrite 4 (Reg.offset .cmd) w
  | .patAddr a => .request (.patAddr a)
  | .scaleAddr a => .request (.scaleAddr a)
  | .quantReq w => .request (.quantReq w)

/-- A state whose next event brings a word to its port. -/
def State.present (s : State) (q : Request) : State := s.setInbox (requestEvent q :: s.inbox)

end Sys2Proof.Machine
end

