-- ==== Sys2Proof/Machine/Step.lean ====
section
/-! DEFINITION. The step, and how an operation is placed where the next step runs it. Both only call definitions of
Machine/HostPort.lean and Decode.lean. -/

namespace Sys2Proof.Machine

/-- One step of the machine. -/
def step (s : State) : Host.Outcome State Fault Refusal := advance s

/-- The state whose very next step runs the operation of a word of the opcode table: its event stands first (log 5). -/
def State.withFetchWord (s : State) (nbits w : Nat) : State := s.present (tableRequest nbits w)

end Sys2Proof.Machine
end

