-- ==== Sys2Proof/Machine/HostPrograms.lean ====
section
/-! DEFINITION. Host programs as lists of events: the lines of 30_encoding R89 and the pseudo-instructions of R90. -/

namespace Sys2Proof.Machine

/-- `wr R, w` (30_encoding R89). -/
def wr (r : Reg) (w : Word) : Event := .regWrite 4 r.offset w

/-- `rd R` (30_encoding R89). -/
def rd (r : Reg) : Event := .regRead 4 r.offset

/-- `poll R, mask, val` (30_encoding R89). -/
def pollReg (r : Reg) (mask val : Word) : Event := .poll r.offset mask val

/-- `mw8 a, b` (30_encoding R89). -/
def mw8 (a : Word) (b : Byte) : Event := .memWrite a b

/-- `mr8 a` (30_encoding R89). -/
def mr8 (a : Word) : Event := .memRead a

/-- `cmd TRANSFORM` (30_encoding R89). -/
def cmdTransform : Event := wr .cmd transformWord

/-- `clear_status` (30_encoding R90). -/
def clearStatus : List Event := [wr .status 0x0000000E#32]

/-- `wait` (30_encoding R90). -/
def wait : List Event := [pollReg .status 0x1#32 0x0#32]

/-- `dither S, T, W, H, sb, ss, db, ds` (30_encoding R90). -/
def ditherProgram (sd td w h : Nat) (sb ss db ds : Word) : List Event :=
  clearStatus
    ++ [wr .depth (BitVec.ofNat 32 ((td <<< 8) ||| sd)), wr .frameSize (BitVec.ofNat 32 ((h <<< 16) ||| w)),
        wr .srcBase sb, wr .srcStride ss, wr .dstBase db, wr .dstStride ds, cmdTransform]
    ++ wait

end Sys2Proof.Machine
end

