-- ==== Sys2Proof/Safety.lean ====
section
/-! DEFINITION. What claims rest on: the constraints of the fixed tables (10_state R37, R39, R40), the invariant every step
keeps, and what a safe run is (10_state R45: no model fault recorded). -/

namespace Sys2Proof.Machine

/-- The constraints of the three fixed parameters: pattern entries in `{0,1,2,3}` (10_state R37), scale rows
non-decreasing (R39), the level map non-decreasing (R40). -/
structure Rom.WF (m : Rom) : Prop where
  pattern_le : ∀ y x : Fin 8, ((m.pattern[y.val])[x.val]).toNat ≤ 3
  scale_mono : ∀ (r : Fin 15) (l : Fin 15), ((m.scale[r.val])[l.val]).toNat ≤ ((m.scale[r.val])[l.val + 1]).toNat
  level_mono : ∀ d : Fin 15, (m.levelMap[d.val]).toNat ≤ (m.levelMap[d.val + 1]).toNat

/-- The invariant: memory keeps its canonical form, reserved bits of DEPTH read 0 (10_state R27), ERR_CODE is 0 exactly
when ERR is (R26), PENDING is a set of coordinates of the frame (R44) in row-major order, a busy command has passed
validation (42_transform_command R142, R143), the tables meet their constraints, and whatever the model records at
acceptance or collision is recorded (R156; 20_memory R69; 70_reset_and_hazards R211). -/
structure State.Inv (s : State) : Prop where
  memWf : Memory.wf s.mem = true
  depthReserved : s.regs.depth &&& ~~~depthMask = 0#32
  errCode : s.status.err = false ↔ s.status.errCode = .none
  pending : s.pending.Sublist (frameCoords s.width s.height)
  busyValid : s.busy = true → s.validate = .none
  romWF : Rom.WF s.rom
  overlapRecorded : s.busy = true → s.layout = .overlapping → Fault.bufferOverlap ∈ s.faults
  deviceRecorded : s.busy = true → s.buffersMeetDevice = true → Fault.bufferInDeviceRegion ∈ s.faults
  collisionSeen : s.busy = true → ∀ n ∈ s.neighbours, s.collidesWith n = true → s.collided = true
  collidedRecorded : s.collided = true → Fault.concurrentInstanceOverlap ∈ s.faults
  othersRecorded : ¬s.neighbours.Pairwise (fun m n => Neighbour.collides m n = false) →
    Fault.concurrentInstanceOverlap ∈ s.faults

/-- A run is safe as long as no model fault was recorded (10_state R45). -/
def State.safe (s : State) : Prop := s.faulted = false

/-- The host's duty on a range of `n` bytes: no host write in it waits to be cleaned (20_memory R73, R77). -/
def State.hostClean (s : State) (a n : Nat) : Prop := ∀ cell ∈ s.hostDirty, ¬(a ≤ cell.1 ∧ cell.1 < a + n)

/-- Every byte of an access is ordinary memory that answers without a bus error (20_memory R69, 60_exceptions R174). -/
def State.ordinary (s : State) (isWrite : Bool) (a n : Nat) : Prop :=
  ∀ k, k < n → Platform.kindOf s.platform (a + k) = .ram ∧ Platform.busError s.platform isWrite (a + k) = false

/-- A coordinate of the frame the registers describe. -/
def State.inFrame (s : State) (c : Coord) : Prop := c.x < s.width ∧ c.y < s.height

/-- The little-endian value of the container of `n` bytes at `a` (42_transform_command R153). -/
def State.container (s : State) (a n : Nat) : Nat :=
  if n = 1 then (s.peek a).toNat else (s.peek a).toNat + 256 * (s.peek (a + 1)).toNat

end Sys2Proof.Machine
end

