-- ==== Sys2Proof/Certificates/Slice0/Obligations.lean ====
section
/-! DEFINITION. The statements for the provers. An event is said to come next by
`s.inbox = e :: rest`; that queue is how the model holds the outside world (log 5). -/

open Sys2Proof Sys2Proof.Machine

/-! ### Encoding (30_encoding) -/

/-- Decode and encode agree on every operation, with every operand at every value (30_encoding R80, R83, R84, R85). -/
def Obligations.DecodeOfEncode : Prop := ∀ i : Instr, decode (encode i) = .ok i

/-- Each word that decodes is the encoding of what it decodes to: no two words share an operation. -/
def Obligations.EncodeOfDecode : Prop := ∀ (q : Request) (i : Instr), decode q = .ok i → encode i = q

/-- A few words written out from the spec's encodings decode to the operations they stand for: 0x00000001 in CMD32;
`{001, 101}` in PAT_ADDR (40_lookup_units R100); 0x23 in SCALE_ADDR (R104); T = 8, R = 2, y = 1, x = 5, V = 1000 in
QUANT_REQ (30_encoding R85). -/
def Obligations.SpelledOutWordsDecode : Prop :=
  decode (.cmd32 0b00000000000000000000000000000001#32) = .ok .transform ∧
  decode (.patAddr 0b001101#6) = .ok (.patternLookup 1#3 5#3) ∧
  decode (.scaleAddr 0b00100011#8) = .ok (.scaleLookup 2#4 3#4) ∧
  decode (.quantReq 0b00100000100011010000001111101000#32) = .ok (.quantize 8#5 2#4 1#3 5#3 1000#16)

/-- A step runs the decoded operation: when the next event brings a word to its port and the word decodes, the step is the
operation's meaning at the state with that event taken. The event queue that stands for the outside world is the model's
(log 5). -/
def Obligations.StepRunsTheDecodedOperation : Prop :=
  ∀ (s : State) (q : Request) (i : Instr), s.fetched = some q → decode q = .ok i → step s = exec i s.popInbox

/-- A word of the opcode table that is placed is executed by the very next step, and the event it was placed as is gone.
How a word is placed, and which format a bare word is read in, are the model's (logs 5, 17). -/
def Obligations.PlacedWordIsExecuted : Prop :=
  ∀ (s : State) (nbits w : Nat) (i : Instr),
    decodeTableWord nbits w = some i → step (s.withFetchWord nbits w) = exec i s

/-- Every CMD word other than 0x00000001 written while BUSY = 0 is ILLEGAL_COMMAND: the code is recorded and nothing else
changes (60_exceptions R171). -/
def Obligations.OtherCommandWordsAreIllegal : Prop :=
  ∀ (s : State) (w : Word) (rest : List Event), s.inbox = wr .cmd w :: rest → w ≠ 0x00000001#32 → s.busy = false →
    step s = .next { s with inbox := rest, status := { s.status with err := true, errCode := .illegalCommand } } ∧
    ErrCode.code .illegalCommand = 1#3

/-! ### The register window (10_state) -/

/-- STATUS as the host reads it: each field in its place, BUSY equal to `PENDING != {}`, the reserved bits 0; CMD reads 0
(10_state R23, R24, R42), with the numbers of the error codes (60_exceptions R170). -/
def Obligations.StatusWordFields : Prop :=
  ∀ s : State,
    (s.statusWord.getLsbD 0 = true ↔ s.pending ≠ []) ∧
    s.statusWord.getLsbD 1 = s.status.done ∧ s.statusWord.getLsbD 2 = s.status.err ∧
    s.statusWord.getLsbD 3 = s.status.dropped ∧
    s.statusWord.extractLsb' 4 3 = ErrCode.code s.status.errCode ∧ s.statusWord.extractLsb' 7 25 = 0#25 ∧
    s.readReg .status = s.statusWord ∧ s.readReg .cmd = 0#32 ∧
    ErrCode.code .none = 0#3 ∧ ErrCode.code .illegalCommand = 1#3 ∧ ErrCode.code .config = 2#3 ∧
    ErrCode.code .buffer = 3#3 ∧ ErrCode.code .memFault = 4#3

/-- A host write of STATUS, in any engine state: bit 1 clears DONE, bit 2 clears ERR and ERR_CODE, bit 3 clears DROPPED, a
0 bit changes nothing, the other bits are ignored, and the write is never dropped (10_state R25). -/
def Obligations.StatusWriteClearsByOnes : Prop :=
  ∀ (s : State) (w : Word) (rest : List Event), s.inbox = wr .status w :: rest →
    step s = .next { s with
      inbox := rest
      status :=
        { done := s.status.done && !w.getLsbD 1
          err := s.status.err && !w.getLsbD 2
          dropped := s.status.dropped && !w.getLsbD 3
          errCode := if w.getLsbD 2 then .none else s.status.errCode } }

/-- A host write of a register other than STATUS (10_state R35): while BUSY it is dropped, DROPPED is set, and nothing else
changes; idle, a CMD write issues its word, and any other is stored with reserved bits forced to 0, and no other register
changes. -/
def Obligations.RegisterWritesStoreOrDrop : Prop :=
  ∀ (s : State) (r : Reg) (w : Word) (rest : List Event), s.inbox = wr r w :: rest → r ≠ .status →
    (s.busy = true → step s = .next { s with inbox := rest, status := { s.status with dropped := true } }) ∧
    (s.busy = false → r = .cmd → step s = runRequest (.cmd32 w) { s with inbox := rest }) ∧
    (s.busy = false → r ≠ .cmd → ∃ t, step s = .next t ∧
      t = { s with inbox := rest, regs := t.regs } ∧
      t.readReg r = (if r = .depth then w &&& 0x00001F1F#32 else w) ∧
      ∀ r', r' ≠ r → t.readReg r' = s.readReg r')

/-- Reserved offsets 0x20 to 0xFC read 0 and ignore writes in every engine state, without setting DROPPED; the reserved
bits of DEPTH and STATUS read 0, and writes to them are ignored (10_state R34). -/
def Obligations.ReservedOffsetsReadZero : Prop :=
  (∀ (s : State) (off : BitVec 8) (rest : List Event), 0x20#8 ≤ off → off.toNat % 4 = 0 →
    (s.inbox = .regRead 4 off :: rest → step s = .next { s with inbox := rest, reads := s.reads ++ [0#32] }) ∧
    (∀ w, s.inbox = .regWrite 4 off w :: rest → step s = .next { s with inbox := rest })) ∧
  (∀ s : State, s.Inv → s.readReg .depth &&& 0xFFFFE0E0#32 = 0#32 ∧ s.readReg .status &&& 0xFFFFFF80#32 = 0#32) ∧
  (∀ (s : State) (w : Word), s.regs.write .depth w = s.regs.write .depth (w &&& 0x00001F1F#32) ∧
    s.writeStatus w = s.writeStatus (w &&& 0x0000007F#32))

/-- A register access that is not 32 bits wide, or not at a multiple of 4, records `unsupported_register_access`, and so does
a host memory byte access whose address lies in the register window (10_state R33, R45). What a read returns is open, and it
changes nothing else; what a write does to the registers is open, but memory, the tables and the host's views stay, and a
command in progress goes on with its configuration. That the open effects are these is the model's (logs 15, 31). -/
def Obligations.UnsupportedAccessIsRecorded : Prop :=
  let reads := fun (s : State) (rest : List Event) => ∃ (t : State) (v : Word), step s = .next t ∧
    Fault.unsupportedRegisterAccess ∈ t.faults ∧ (∀ f ∈ s.faults, f ∈ t.faults) ∧
    t = { s with inbox := rest, reads := s.reads ++ [v], faults := t.faults, draws := t.draws }
  let writes := fun (s : State) (rest : List Event) => ∃ t : State, step s = .next t ∧
    Fault.unsupportedRegisterAccess ∈ t.faults ∧ (∀ f ∈ s.faults, f ∈ t.faults) ∧
    t = { s with inbox := rest, regs := t.regs, status := t.status, pending := t.pending, collided := t.collided,
                 faults := t.faults, draws := t.draws } ∧
    (s.busy = true → t.pending = s.pending ∧ t.regs = s.regs)
  (∀ (s : State) (bytes : Nat) (off : BitVec 8) (rest : List Event), bytes ≠ 4 ∨ off.toNat % 4 ≠ 0 →
    (s.inbox = .regRead bytes off :: rest → reads s rest) ∧
    (∀ w, s.inbox = .regWrite bytes off w :: rest → writes s rest)) ∧
  (∀ (s : State) (a : Word) (rest : List Event), s.inWindow a.toNat = true →
    (s.inbox = mr8 a :: rest → reads s rest) ∧ (∀ b, s.inbox = mw8 a b :: rest → writes s rest))

/-- A 32-bit register read completes in every engine state, returns the register's value, and has no side effect on the
engine: only the host's own views and its record of the value change (10_state R36). That record is the model's (log 16). -/
def Obligations.RegisterReadsHaveNoSideEffect : Prop :=
  ∀ (s : State) (off : BitVec 8) (rest : List Event), s.inbox = .regRead 4 off :: rest → off.toNat % 4 = 0 →
    ∃ t, step s = .next t ∧ t.reads = s.reads ++ [s.readOffset off] ∧
      t = { s with inbox := rest, reads := t.reads, unsynced := t.unsynced, hostCached := t.hostCached }

/-- After power-on reset every register reads 0, nothing is pending, no fault is recorded, and the tables hold what they
were built with (10_state R46). -/
def Obligations.ResetStateRegistersReadZero : Prop :=
  (∀ off : BitVec 8, State.reset.readOffset off = 0#32) ∧ State.reset.pending = [] ∧ State.reset.busy = false ∧
  State.reset.faulted = false ∧ State.reset.rom = Config.rom

/-- The reset input, at any moment (70_reset_and_hazards R200, R201): every register reads 0, PENDING is empty, the tables
and the recorded faults stay, and memory stays but, during a command, for at most one output container: that of a pending
coordinate whose read does not answer with a bus error, since its read comes before its write (20_memory R72). That any such
coordinate may be the one in flight is the model's (log 11). -/
def Obligations.ResetInputClearsTheBlock : Prop :=
  ∀ (s : State) (rest : List Event), s.inbox = .reset :: rest →
    ∃ t, step s = .next t ∧ (∀ off, t.readOffset off = 0#32) ∧ t.pending = [] ∧ t.rom = s.rom ∧ t.faults = s.faults ∧
      (s.busy = false → t.mem = s.mem) ∧
      (s.busy = true → (∀ a, t.peek a = s.peek a) ∨
        ∃ c ∈ s.pending, s.accessErrs false (s.srcAddr c) s.srcBytes = false ∧
          ∀ a, ¬(s.dstAddr c ≤ a ∧ a < s.dstAddr c + s.dstBytes) → t.peek a = s.peek a)

/-! ### The lookup units (40_lookup_units) -/

/-- PATTERN_LOOKUP at a coordinate returns `DITHER_PATTERN[y mod 8][x mod 8]`, has no failure mode and changes nothing else;
its index is `{y[2:0], x[2:0]}`, and under the pattern's constraint the value is in `{0,1,2,3}` (40_lookup_units R100). That
the value stands in `returned` is the model's (log 16). -/
def Obligations.PatternLookupAnswersItsEntry : Prop :=
  ∀ (s : State) (x y : Nat),
    exec (.patternLookup (tileField y) (tileField x)) s =
      .next { s with returned := some ((s.rom.pattern[y % 8][x % 8]).zeroExtend 16) } ∧
    encode (.patternLookup (tileField y) (tileField x)) = .patAddr (BitVec.ofNat 6 (8 * (y % 8) + x % 8)) ∧
    (Rom.WF s.rom → (s.rom.pattern[y % 8][x % 8]).toNat ≤ 3)

/-- The pattern is tiled: for one input value, what the engine writes 8 columns or 8 rows further is the same
(40_lookup_units R101, 41_quantizer R129, 42_transform_command R158). -/
def Obligations.SamplesArePeriodicInTheCoordinate : Prop :=
  ∀ (s : State) (x y : Nat) (v : Sample),
    s.quantizeSample { x := x + 8, y := y } v = s.quantizeSample { x := x, y := y } v ∧
    s.quantizeSample { x := x, y := y + 8 } v = s.quantizeSample { x := x, y := y } v

/-- Every value PATTERN_LOOKUP returns is in `{0,1,2,3}` (40_lookup_units R103), in every state that meets the invariant
(the pattern's constraint, 10_state R37). -/
def Obligations.PatternValuesAreBelowFour : Prop :=
  ∀ (s : State) (y x : BitVec 3), s.Inv →
    ∃ t v, exec (.patternLookup y x) s = .next t ∧ t.returned = some v ∧ v.toNat ≤ 3

/-- SCALE_LOOKUP returns `DEPTH_SCALE[r][l]` for `r` in 1..15 and changes nothing else; `r = 0` records the fault
`scale_row_zero`, and what it then returns is open; its index is `{r[3:0], l[3:0]}` (40_lookup_units R104). Row `r` stands
at index `r - 1` of the model's table; that the value stands in `returned`, and that a reserved index returns an open value,
are the model's (logs 16, 18). -/
def Obligations.ScaleLookupAnswersItsEntry : Prop :=
  ∀ s : State,
    (∀ (i : Fin 15) (l : Fin 16),
      exec (.scaleLookup (BitVec.ofNat 4 (i.val + 1)) (BitVec.ofNat 4 l.val)) s =
        .next { s with returned := some ((s.rom.scale[i.val])[l.val]) } ∧
      encode (.scaleLookup (BitVec.ofNat 4 (i.val + 1)) (BitVec.ofNat 4 l.val)) =
        .scaleAddr (BitVec.ofNat 8 (16 * (i.val + 1) + l.val))) ∧
    (∀ l, ∃ (t : State) (v : Sample), exec (.scaleLookup 0#4 l) s = .next t ∧ Fault.scaleRowZero ∈ t.faults ∧
      (∀ f ∈ s.faults, f ∈ t.faults) ∧ t = { s with returned := some v, faults := t.faults, draws := t.draws })

/-- For a fixed reduction the bias is non-decreasing in the pattern value (40_lookup_units R107). -/
def Obligations.BiasIsMonotoneInPatternValue : Prop :=
  ∀ (m : Rom) (r d d' : BitVec 4) (b b' : Sample), Rom.WF m → d ≤ d' →
    scaleLookup m r (Rom.levelAt m d) = .ok b → scaleLookup m r (Rom.levelAt m d') = .ok b' → b ≤ b'

/-! ### The quantizer (41_quantizer) -/

/-- Pass-through: with `r = 0` QUANTIZE returns `v` unchanged, whatever `v` is, and changes nothing else (41_quantizer
R121). That the value stands in `returned` is the model's (log 16). -/
def Obligations.QuantizePassesThrough : Prop :=
  ∀ (s : State) (t : BitVec 5) (y x : BitVec 3) (v : Sample), 1 ≤ t.toNat → t.toNat ≤ 16 →
    exec (.quantize t 0#4 y x v) s = .next { s with returned := some v }

/-- The quantizing path: `d` is the pattern entry at the sample's position, `bias` the scale entry of row `r` at the level
of `d`, and the value returned is `min(floor((v + bias) / 2^r), 2^T - 1)`, the sum fitting 17 bits; nothing else changes
(41_quantizer R122, R123, R124). That the value stands in `returned` is the model's (log 16). -/
def Obligations.QuantizeAddsShiftsAndClamps : Prop :=
  ∀ (s : State) (t : BitVec 5) (i : Fin 15) (y x : Fin 8) (v : Sample), 1 ≤ t.toNat → t.toNat + (i.val + 1) ≤ 16 →
    let d := (s.rom.pattern[y.val])[x.val]
    let l := s.rom.levelMap[d.toNat]'d.isLt
    let bias := (s.rom.scale[i.val])[l.toNat]'l.isLt
    ∃ out : Sample,
      exec (.quantize t (BitVec.ofNat 4 (i.val + 1)) (BitVec.ofNat 3 y.val) (BitVec.ofNat 3 x.val) v) s =
        .next { s with returned := some out } ∧
      v.toNat + bias.toNat < 2 ^ 17 ∧
      out.toNat = min ((v.toNat + bias.toNat) / 2 ^ (i.val + 1)) (2 ^ t.toNat - 1)

/-- A request outside `1 <= T <= 16`, `T + R <= 16`, or with bit 31 set, records the fault `bad_quant_request`
(30_encoding R87). What it then returns is open, and nothing else changes: that is the model's (logs 16, 18). -/
def Obligations.IllegalQuantizeRequestsAreRecorded : Prop :=
  let recorded := fun (s t : State) => Fault.badQuantRequest ∈ t.faults ∧ (∀ f ∈ s.faults, f ∈ t.faults) ∧
    ∃ v : Sample, t = { s with returned := some v, faults := t.faults, draws := t.draws }
  (∀ (s : State) (t : BitVec 5) (r : BitVec 4) (y x : BitVec 3) (v : Sample),
    ¬(1 ≤ t.toNat ∧ t.toNat ≤ 16 ∧ t.toNat + r.toNat ≤ 16) →
    ∃ u, exec (.quantize t r y x v) s = .next u ∧ recorded s u) ∧
  (∀ (s : State) (w : Word) (rest : List Event), s.inbox = .request (.quantReq w) :: rest → w.getLsbD 31 = true →
    ∃ u, step s = .next u ∧ recorded { s with inbox := rest } u)

/-- Range: with `r >= 1` every value QUANTIZE returns for a legal request is at most `2^T - 1`, whatever `v` and the tables
are (41_quantizer R129). -/
def Obligations.QuantizeStaysInRange : Prop :=
  ∀ (m : Rom) (t : BitVec 5) (r : BitVec 4) (y x : BitVec 3) (v out : Sample), r ≠ 0#4 →
    quantize m t r y x v = .ok out → out.toNat ≤ 2 ^ t.toNat - 1

/-- Monotone: a larger input of a legal request never gives a smaller output (41_quantizer R129). -/
def Obligations.QuantizeIsMonotone : Prop :=
  ∀ (m : Rom) (t : BitVec 5) (r : BitVec 4) (y x : BitVec 3) (v v' out out' : Sample), v ≤ v' →
    quantize m t r y x v = .ok out → quantize m t r y x v' = .ok out' → out ≤ out'

/-- Bounded dither effect of a legal request, for `r >= 1` (41_quantizer R129). -/
def Obligations.QuantizeDitherIsBounded : Prop :=
  ∀ (m : Rom) (t : BitVec 5) (r : BitVec 4) (y x : BitVec 3) (v out : Sample), r ≠ 0#4 →
    quantize m t r y x v = .ok out →
    min (v.toNat >>> r.toNat) (2 ^ t.toNat - 1) ≤ out.toNat ∧
    out.toNat ≤ min ((v.toNat + 65535) >>> r.toNat) (2 ^ t.toNat - 1)

/-- The integer datapath of the model is the 17-bit one of the spec: zero-extend both, add in 17 bits, shift, clamp
(41_quantizer R120, R124). -/
def Obligations.DatapathIsSeventeenBits : Prop :=
  ∀ (v bias : Sample) (r t : Nat), t ≤ 16 →
    (addShiftClamp v bias r t).toNat = min ((v.zeroExtend 17 + bias.zeroExtend 17) >>> r).toNat (2 ^ t - 1)

/-- With `r = 15` the target depth is 1, and the output is 1 exactly when `v + bias >= 32768`, else 0 (41_quantizer
R128). -/
def Obligations.FifteenBitReductionIsAThreshold : Prop :=
  ∀ (m : Rom) (t : BitVec 5) (y x : BitVec 3) (v bias : Sample), quantLegal t 15#4 = true →
    scaleLookup m 15#4 (Rom.levelAt m (Rom.patternAt m y x)) = .ok bias →
    t = 1#5 ∧ quantize m t 15#4 y x v = .ok (if 32768 ≤ v.toNat + bias.toNat then 1#16 else 0#16)

/-! ### The issue of TRANSFORM (42_transform_command) -/

/-- One command at a time: any CMD write while BUSY = 1 is dropped, sets DROPPED and changes nothing else, so no command is
queued, and TRANSFORM itself answers so (42_transform_command R160, 10_state R35). That TRANSFORM's meaning makes the check
is the model's (log 19). -/
def Obligations.TransformWhileBusyIsDropped : Prop :=
  ∀ s : State, s.busy = true →
    exec .transform s = .next { s with status := { s.status with dropped := true } } ∧
    ∀ (w : Word) (rest : List Event), s.inbox = wr .cmd w :: rest →
      step s = .next { s with inbox := rest, status := { s.status with dropped := true } }

/-- `validate()`: NONE exactly when both depths are in 1..16, `T <= S`, both bases are non-null, both strides hold a row,
and, for a non-empty frame, both buffers end in the address space; CONFIG exactly when a depth condition fails, so before
BUFFER (42_transform_command R142, 60_exceptions R175). -/
def Obligations.ValidationFindsTheFirstError : Prop :=
  ∀ s : State,
    let configOk := 1 ≤ s.srcDepth ∧ s.srcDepth ≤ 16 ∧ 1 ≤ s.dstDepth ∧ s.dstDepth ≤ 16 ∧ s.dstDepth ≤ s.srcDepth
    let bufferOk := s.regs.srcBase ≠ 0#32 ∧ s.regs.dstBase ≠ 0#32 ∧
      s.width * s.srcBytes ≤ s.regs.srcStride.toNat ∧ s.width * s.dstBytes ≤ s.regs.dstStride.toNat ∧
      (0 < s.width → 0 < s.height →
        s.regs.srcBase.toNat + (s.height - 1) * s.regs.srcStride.toNat + s.width * s.srcBytes ≤ 2 ^ 32 ∧
        s.regs.dstBase.toNat + (s.height - 1) * s.regs.dstStride.toNat + s.width * s.dstBytes ≤ 2 ^ 32)
    (s.validate = .none ↔ configOk ∧ bufferOk) ∧ (s.validate = .config ↔ ¬configOk) ∧
    (s.validate = .buffer ↔ configOk ∧ ¬bufferOk)

/-- Rejection at issue: an idle engine sets ERR to 1 and ERR_CODE to the error (that of `validate()` for TRANSFORM,
ILLEGAL_COMMAND for any other word) and leaves the rest as it was: BUSY, PENDING, DONE and memory. The host's write of CMD
does so in one step, so its next read of STATUS shows it (42_transform_command R144). -/
def Obligations.TransformRejectsInvalidOperands : Prop :=
  ∀ s : State, s.busy = false →
    (s.validate ≠ .none →
      exec .transform s = .next { s with status := { s.status with err := true, errCode := s.validate } } ∧
      ∀ rest, s.inbox = cmdTransform :: rest →
        step s = .next { s with inbox := rest, status := { s.status with err := true, errCode := s.validate } }) ∧
    (∀ (w : Word) (rest : List Event), w ≠ transformWord → s.inbox = wr .cmd w :: rest →
      step s = .next { s with inbox := rest, status := { s.status with err := true, errCode := .illegalCommand } })

/-- CONFIG is raised when `S` or `T` is outside 1..16, when `T > S`, or when `S - T > 15`; only the code is recorded
(60_exceptions R172). -/
def Obligations.TransformRaisesConfig : Prop :=
  ∀ s : State, s.busy = false →
    (s.srcDepth < 1 ∨ 16 < s.srcDepth ∨ s.dstDepth < 1 ∨ 16 < s.dstDepth ∨ s.srcDepth < s.dstDepth ∨
      15 < (s.srcDepth : Int) - (s.dstDepth : Int)) →
    exec .transform s = .next { s with status := { s.status with err := true, errCode := .config } }

/-- An empty frame completes at once: DONE is set, BUSY stays 0 and no memory is accessed (42_transform_command R145). -/
def Obligations.TransformOfEmptyFrameIsDone : Prop :=
  ∀ s : State, s.busy = false → s.validate = .none → s.width = 0 ∨ s.height = 0 →
    exec .transform s = .next { s with status := { s.status with done := true } }

/-- Acceptance: an idle engine with valid operands and a non-empty frame makes exactly the `W * H` coordinates of the frame
pending and is BUSY; nothing else of the hardware changes, STATUS's other bits and memory included (42_transform_command
R143); the model's recorded faults only grow, and its mark of a collision is set anew, to whether the buffers of an
instance that is busy now collide, whatever an earlier command left (10_state R43; log 8). -/
def Obligations.TransformAcceptsAFrame : Prop :=
  ∀ s : State, s.busy = false → s.validate = .none → 0 < s.width → 0 < s.height →
    ∃ t, exec .transform s = .next t ∧ t.busy = true ∧
      (∀ c, c ∈ t.pending ↔ c.x < s.width ∧ c.y < s.height) ∧ t.pending.Nodup ∧
      t.pending.length = s.width * s.height ∧
      t = { s with pending := t.pending, faults := t.faults, collided := s.neighbours.any s.collidesWith } ∧
      ∀ f ∈ s.faults, f ∈ t.faults

/-- Acceptance records what makes the command's result unspecified, and only that: an OVERLAPPING layout
(42_transform_command R156), buffer bytes in a device region (20_memory R69), a collision with another busy instance
(70_reset_and_hazards R211). The command runs all the same. How other instances are kept is the model's (log 23). -/
def Obligations.AcceptanceRecordsHazards : Prop :=
  ∀ (s t : State), s.busy = false → s.validate = .none → 0 < s.width → 0 < s.height → exec .transform s = .next t →
    ∀ f, f ∈ t.faults ↔ f ∈ s.faults ∨ (f = .bufferOverlap ∧ s.layout = .overlapping) ∨
      (f = .bufferInDeviceRegion ∧ s.buffersMeetDevice = true) ∨
      (f = .concurrentInstanceOverlap ∧ ∃ n ∈ s.neighbours, s.collidesWith n = true)

/-- The frame of TRANSFORM's issue: it changes STATUS, PENDING, the recorded faults and the mark of a collision (log 8)
only, every byte of memory reads as before, ERR never goes from 1 to 0 nor DONE or DROPPED, and it sets at most one of DONE, ERR and BUSY. -/
def Obligations.TransformFrame : Prop :=
  ∀ (s t : State), exec .transform s = .next t →
    t = { s with status := t.status, pending := t.pending, faults := t.faults, collided := t.collided } ∧
    (∀ a, t.peek a = s.peek a) ∧
    (s.status.done = true → t.status.done = true) ∧ (s.status.err = true → t.status.err = true) ∧
    (s.status.dropped = true → t.status.dropped = true) ∧
    (t.busy ≠ s.busy → t.status = s.status) ∧ (t.status.done ≠ s.status.done → t.status.err = s.status.err)

/-- Sample addresses (20_memory R66): base plus `y` strides plus `x` containers, and with valid operands every container
of the frame ends in the address space, so no address wraps. -/
def Obligations.AcceptedContainersFitTheAddressSpace : Prop :=
  ∀ (s : State) (c : Coord),
    s.srcAddr c = s.regs.srcBase.toNat + c.y * s.regs.srcStride.toNat + c.x * s.srcBytes ∧
    s.dstAddr c = s.regs.dstBase.toNat + c.y * s.regs.dstStride.toNat + c.x * s.dstBytes ∧
    (s.validate = .none → s.inFrame c →
      s.srcAddr c + s.srcBytes ≤ 2 ^ 32 ∧ s.dstAddr c + s.dstBytes ≤ 2 ^ 32)

/-- The byte set of a buffer is the set of its container bytes (42_transform_command R147). -/
def Obligations.BufferBytesAreContainerBytes : Prop :=
  ∀ (b : Buffer) (a : Nat),
    b.contains a = true ↔ ∃ x y k, x < b.width ∧ y < b.height ∧ k < b.bytes ∧ a = b.addr { x := x, y := y } + k

/-- The layouts (42_transform_command R148): IDENTICAL is equal base, stride and container size, and then each output
container is the input container of its coordinate; otherwise DISJOINT is no common byte and OVERLAPPING a common byte; a
command with samples is never both IDENTICAL and DISJOINT, so for it DISJOINT is exactly no common byte. -/
def Obligations.LayoutsAreExclusive : Prop :=
  ∀ s : State,
    let same := s.regs.srcBase = s.regs.dstBase ∧ s.regs.srcStride = s.regs.dstStride ∧ s.srcBytes = s.dstBytes
    let meet := ∃ a, s.srcBuffer.contains a = true ∧ s.dstBuffer.contains a = true
    (s.layout = .identical ↔ same) ∧ (s.layout = .disjoint ↔ ¬same ∧ ¬meet) ∧ (s.layout = .overlapping ↔ ¬same ∧ meet) ∧
    (same → s.srcBytes = s.dstBytes ∧ ∀ c, s.srcAddr c = s.dstAddr c) ∧
    (0 < s.width → 0 < s.height → (same → meet) ∧ (s.layout = .disjoint ↔ ¬meet))

/-! ### Sample steps, completion, abort (42_transform_command) -/

/-- A sample step in ordinary memory, with no bus error, an input container the host has cleaned (20_memory R77) and outputs
that are not free (42_transform_command R149, R150): the output container takes QUANTIZE of the input container, low byte first, every other byte reads as before, the
coordinate leaves PENDING, DONE is set exactly when it was the last one, and nothing else of the registers changes. -/
def Obligations.SampleStepWritesItsSample : Prop :=
  ∀ (s : State) (c : Coord), s.Inv → c ∈ s.pending → s.contended = false → s.hostClean (s.srcAddr c) s.srcBytes →
    s.ordinary false (s.srcAddr c) s.srcBytes → s.ordinary true (s.dstAddr c) s.dstBytes →
    ∃ (t : State) (out : Sample), sampleStep c s = .next t ∧
      s.quantizeSample c (BitVec.ofNat 16 (s.container (s.srcAddr c) s.srcBytes)) = .ok out ∧
      t.container (s.dstAddr c) s.dstBytes = out.toNat ∧
      (∀ a, ¬(s.dstAddr c ≤ a ∧ a < s.dstAddr c + s.dstBytes) → t.peek a = s.peek a) ∧
      (∀ d, d ∈ t.pending ↔ d ∈ s.pending ∧ d ≠ c) ∧
      t.status = (if t.pending = [] then { s.status with done := true } else s.status) ∧
      t.regs = s.regs ∧ t.faults = s.faults ∧ t.rom = s.rom

/-- The QUANTIZE of a sample step is the operation QUANTIZE of the request the sequencer makes (30_encoding R85): with
depths of an accepted command, executing that request answers what the sample step writes. That an answer stands
in `returned` is the model's (log 16). -/
def Obligations.SampleStepRequestsQuantize : Prop :=
  ∀ (s : State) (c : Coord) (v out : Sample), s.validate = .none → s.quantizeSample c v = .ok out →
    exec (.quantize s.targetField (BitVec.ofNat 4 (s.srcDepth - s.dstDepth)) (tileField c.y) (tileField c.x) v) s =
      .next { s with returned := some out }

/-- The engine writes only output containers: in a state that meets the invariant, no turn of the engine changes a byte
outside `DstBytes`, whatever ends it (20_memory R61, R79). -/
def Obligations.EngineWritesOnlyOutputBytes : Prop :=
  ∀ (s t : State) (choice : Option Nat) (a : Nat), s.Inv → engineTurn choice s = .next t →
    s.dstBuffer.contains a = false → t.peek a = s.peek a

/-- Abort (42_transform_command R152, 60_exceptions R174): a bus error on the read of a sample, or, with the read and the
request in order, on its write, empties PENDING, clears BUSY, raises MEM_FAULT and leaves DONE. On the write, only the
sample's own output container may change. On the read, the sample's own output container keeps its bytes, since its write
has not begun (42_transform_command R149, 20_memory R72); at most the container of one other pending coordinate may change,
one whose own read does not answer with a bus error, as if it were in flight, which is the model's (log 10). -/
def Obligations.BusErrorAbortsTheCommand : Prop :=
  ∀ (s : State) (c : Coord), s.Inv → c ∈ s.pending →
    let aborted := fun t : State => t.pending = [] ∧ t.busy = false ∧
      t.status = { s.status with err := true, errCode := .memFault } ∧ t.regs = s.regs ∧ t.faults = s.faults
    let only := fun (t : State) (d : Coord) =>
      ∀ a, ¬(s.dstAddr d ≤ a ∧ a < s.dstAddr d + s.dstBytes) → t.peek a = s.peek a
    (s.accessErrs false (s.srcAddr c) s.srcBytes = true →
      ∃ t, sampleStep c s = .next t ∧ aborted t ∧
        (∀ a, s.dstAddr c ≤ a → a < s.dstAddr c + s.dstBytes → t.peek a = s.peek a) ∧
        ((∀ a, t.peek a = s.peek a) ∨
          ∃ d ∈ s.pending, d ≠ c ∧ s.accessErrs false (s.srcAddr d) s.srcBytes = false ∧ only t d)) ∧
    (s.ordinary false (s.srcAddr c) s.srcBytes → s.accessErrs true (s.dstAddr c) s.dstBytes = true →
      ∃ t, sampleStep c s = .next t ∧ aborted t ∧ only t c)

/-- The engine makes no illegal access or request: in a state that meets the invariant, the only fault a turn of the engine
can end in is an access to a device region, and that was recorded at acceptance; a turn that goes on records no fault
(40_lookup_units R105, 30_encoding R87, 20_memory R66, R69). That a device access stops the run is the model's (logs 7,
15). -/
def Obligations.EngineTurnFaultsOnlyOnDevices : Prop :=
  ∀ (s : State) (choice : Option Nat), s.Inv →
    (∀ f, engineTurn choice s = .fault f → f = .bufferInDeviceRegion ∧ Fault.bufferInDeviceRegion ∈ s.faults) ∧
    (∀ r, engineTurn choice s ≠ .refused r) ∧
    (∀ t, engineTurn choice s = .next t → t.faults = s.faults)

/-- Failure is never silent (10_state R42, 42_transform_command R159): a step that takes a busy engine to idle, unless it
is the reset input, sets DONE, or ERR with MEM_FAULT, in that same step, and leaves the rest of STATUS as it was, so that an
earlier command's DONE or ERR does not stand for it. -/
def Obligations.CommandEndsWithAReport : Prop :=
  ∀ (s t : State), s.busy = true → step s = .next t → t.busy = false → (∀ rest, s.inbox ≠ .reset :: rest) →
    t.status = { s.status with done := true } ∨ t.status = { s.status with err := true, errCode := .memFault }

/-- Progress (42_transform_command R151): with no event left and no buffer byte in a device region, a busy engine is idle
after at most as many steps as coordinates are pending, and has set DONE, or ERR with MEM_FAULT, and changed
nothing else of STATUS (R159). That the engine moves at every step once no event is left is the model's reading of the fairness the rule asks for (log 6). -/
def Obligations.AcceptedCommandEnds : Prop :=
  ∀ s : State, s.Inv → s.inbox = [] → s.buffersMeetDevice = false → s.busy = true →
    ∃ (n : Nat) (t : State), n ≤ s.pending.length ∧ Host.Core.run core n s = .next t ∧ t.busy = false ∧
      (t.status = { s.status with done := true } ∨ t.status = { s.status with err := true, errCode := .memFault })

/-- End state (42_transform_command R153): from a just accepted command whose layout is IDENTICAL or DISJOINT, in ordinary
memory with no bus error and with its input containers cleaned (20_memory R77), the engine left alone completes after
`W * H` steps, in whatever order it takes the samples, and sets DONE and nothing else of STATUS; every output container then holds QUANTIZE of its input container as it was at the start, and every other byte reads as it
did. The order is a free value (log 6), so the statement holds for every order. -/
def Obligations.CompletedCommandEndState : Prop :=
  ∀ s : State, s.Inv → s.inbox = [] → s.busy = true → s.pending = frameCoords s.width s.height →
    s.contended = false → (∀ c, s.inFrame c → s.hostClean (s.srcAddr c) s.srcBytes) →
    (∀ c, s.inFrame c → s.ordinary false (s.srcAddr c) s.srcBytes ∧ s.ordinary true (s.dstAddr c) s.dstBytes) →
    ∃ t : State, Host.Core.run core (s.width * s.height) s = .next t ∧ t.busy = false ∧
      t.status = { s.status with done := true } ∧
      (∀ c, s.inFrame c → ∃ out : Sample,
        s.quantizeSample c (BitVec.ofNat 16 (s.container (s.srcAddr c) s.srcBytes)) = .ok out ∧
        t.container (s.dstAddr c) s.dstBytes = out.toNat) ∧
      (∀ a, s.dstBuffer.contains a = false → t.peek a = s.peek a)

/-! ### Whole-machine rules -/

/-- Power-on reset meets the invariant, whatever the free values are. What the tables and the platform hold at power-on is
the model's (logs 1, 2, 3). -/
def Obligations.InvariantHoldsAtReset : Prop := State.reset.Inv

/-- Every step keeps the invariant: memory's canonical form, DEPTH's reserved bits, ERR_CODE 0 exactly when ERR is 0
(10_state R26), PENDING a set of the frame's coordinates (R44) of a valid command, the tables' constraints, the recorded
hazards. -/
def Obligations.StepKeepsTheInvariant : Prop := ∀ (s t : State), s.Inv → step s = .next t → t.Inv

/-- No step changes the tables or LEVEL_MAP (10_state R41), not even the reset input. That no step changes the platform's
parameters either, BUS_ERROR among them, is the model's (log 3). -/
def Obligations.TablesNeverChange : Prop :=
  ∀ (s t : State), step s = .next t → t.rom = s.rom ∧ t.platform = s.platform

/-- A recorded model fault is never cleared, not even by reset (10_state R45). -/
def Obligations.RecordedFaultsAreNeverCleared : Prop :=
  ∀ (s t : State), step s = .next t → (∀ f ∈ s.faults, f ∈ t.faults) ∧ (s.faulted = true → t.faulted = true)

/-- The configuration registers cannot change while a command is in progress (42_transform_command R141, 10_state R35). -/
def Obligations.ConfigurationIsFixedWhileBusy : Prop :=
  ∀ (s t : State), s.busy = true → step s = .next t → t.busy = true → t.regs = s.regs

/-- An idle block does nothing until something reaches it (60_exceptions R184). -/
def Obligations.IdleBlockDoesNothing : Prop :=
  ∀ s : State, s.inbox = [] → s.busy = false → step s = .next s

/-! ### Host and engine views of memory (20_memory), hazards (70_reset_and_hazards) -/

/-- A host byte write to ordinary memory outside the buffers of a busy command: the byte reads as written, every other byte
as before, the host sees it at once, and on a coherent platform so does the engine (20_memory R73). The platform's
coherence premise covers the engine's view only; how the two views are kept is the model's (logs 12, 13). That the write
completes also where BUS_ERROR answers is the model's too (log 30). -/
def Obligations.HostWriteReachesMemory : Prop :=
  ∀ (s : State) (a : Word) (b : Byte) (rest : List Event), s.inbox = mw8 a b :: rest → s.inBusyBuffer a.toNat = false →
    Platform.kindOf s.platform a.toNat = .ram →
    ∃ t, step s = .next t ∧ t.peek a.toNat = b ∧ (∀ a', a' ≠ a.toNat → t.peek a' = s.peek a') ∧
      (∀ slot, t.hostByte slot a.toNat = b) ∧
      (s.platform.coherent = true → s.hostClean a.toNat 1 → ∀ slot, t.engineByte slot a.toNat = b) ∧
      t.regs = s.regs ∧ t.status = s.status ∧ t.pending = s.pending ∧ t.faults = s.faults

/-- A host write to a byte of a busy command's buffers is recorded and the run goes on, with no other byte changed and the
command's configuration kept (70_reset_and_hazards R210), wherever the byte lies. That the run goes on, with that byte free,
what else such a write does in the register window or in another device, and that it completes also where BUS_ERROR answers,
are the model's (logs 9, 15, 30, 31). -/
def Obligations.RacingHostWriteIsRecorded : Prop :=
  ∀ (s : State) (a : Word) (b : Byte) (rest : List Event), s.inbox = mw8 a b :: rest → s.inBusyBuffer a.toNat = true →
    ∃ t, step s = .next t ∧ Fault.hostWriteToBusyBuffer ∈ t.faults ∧ t.faulted = true ∧ t.pending = s.pending ∧
      t.regs = s.regs ∧ ∀ a', a' ≠ a.toNat → t.peek a' = s.peek a'

/-- A host byte read of ordinary memory returns the byte memory holds or an older one the host may still see, per byte
(20_memory R68, R74), and changes neither memory nor the block. How the older bytes are kept, those of the host's cache on a
platform that is not coherent among them, is the model's (logs 12, 13), and so is that the read completes also where
BUS_ERROR answers (log 30). While BUSY, a read of a byte of the command's buffers is allowed wherever the byte lies but in
the register window (70_reset_and_hazards R210), and changes neither; what it returns of a device is the model's (log 15). -/
def Obligations.HostReadSeesCurrentOrOlderByte : Prop :=
  ∀ (s : State) (a : Word) (rest : List Event), s.inbox = mr8 a :: rest →
    Platform.kindOf s.platform a.toNat = .ram ∨ (s.inBusyBuffer a.toNat = true ∧ s.inWindow a.toNat = false) →
    ∃ (t : State) (v : Byte), step s = .next t ∧
      (Platform.kindOf s.platform a.toNat = .ram →
        v = s.peek a.toNat ∨ (a.toNat, v) ∈ s.unsynced ++ s.hostCached) ∧
      t = { s with inbox := rest, reads := s.reads ++ [v.zeroExtend 32], draws := t.draws }

/-- A STATUS read that returns BUSY = 0 is the synchronisation point: on a coherent platform the host then sees every
byte of which its cache holds no stale copy as memory holds it (20_memory R74, R75). How the older bytes are kept is the
model's (logs 12, 13). -/
def Obligations.StatusReadSynchronises : Prop :=
  ∀ (s : State) (rest : List Event), s.inbox = rd .status :: rest → s.busy = false → s.platform.coherent = true →
    ∃ t, step s = .next t ∧ t.reads = s.reads ++ [s.statusWord] ∧ s.statusWord.getLsbD 0 = false ∧
      ∀ slot a, Platform.kindOf s.platform a = .ram → (∀ cell ∈ s.hostCached, cell.1 ≠ a) → t.hostByte slot a = s.peek a

/-- On a platform that is not coherent, a host write may stay unseen by the engine until the host cleans it, and once the
host has cleaned the range the engine reads it (20_memory R77). How the two views are kept is the model's (log 13). -/
def Obligations.CleaningMakesHostWritesVisible : Prop :=
  ∀ (s : State) (sp : Span) (rest : List Event), s.inbox = .cacheClean sp :: rest →
    ∃ t, step s = .next t ∧ (∀ a, t.peek a = s.peek a) ∧
      ∀ slot a, spanContains sp a = true → Platform.kindOf s.platform a = .ram → t.engineByte slot a = t.peek a

/-- On a platform that is not coherent, once the host has seen BUSY = 0 and invalidated the range it sees every byte there
as memory holds it (20_memory R77). How the two views are kept is the model's (log 13). -/
def Obligations.InvalidatingShowsEngineWrites : Prop :=
  ∀ (s : State) (sp : Span) (rest : List Event), s.inbox = .cacheInvalidate sp :: rest → s.unsynced = [] →
    ∃ t, step s = .next t ∧ (∀ a, t.peek a = s.peek a) ∧
      ∀ slot a, spanContains sp a = true → Platform.kindOf s.platform a = .ram → t.hostByte slot a = t.peek a

/-- Another instance that becomes busy with buffers that collide with a busy command's, or with those of another instance
that is busy, is recorded (70_reset_and_hazards R211). How other instances are kept is the model's (log 23). That the outputs
of this instance's command are free values after it met another's, and only then, is the model's too (log 8). -/
def Obligations.InstanceCollisionIsRecorded : Prop :=
  ∀ (s : State) (n : Neighbour) (rest : List Event), s.inbox = .neighbourBusy n :: rest →
    ∃ t, step s = .next t ∧ t.neighbours = s.neighbours ++ [n] ∧
      (s.busy = true →
        (s.dstBuffer.overlaps n.dst = true ∨ s.dstBuffer.overlaps n.src = true ∨ n.dst.overlaps s.srcBuffer = true) →
        Fault.concurrentInstanceOverlap ∈ t.faults ∧ t.contended = true) ∧
      (∀ m ∈ s.neighbours,
        (m.dst.overlaps n.dst = true ∨ m.dst.overlaps n.src = true ∨ n.dst.overlaps m.src = true) →
        Fault.concurrentInstanceOverlap ∈ t.faults) ∧
      (s.collidesWith n = false → t.contended = s.contended)

/-- `poll` repeats the read until the masked value matches (30_encoding R89); between two reads the engine has a turn, since
it never waits on the host (42_transform_command R151). That it has exactly one is the model's (log 22). -/
def Obligations.PollRepeatsUntilItMatches : Prop :=
  ∀ (s : State) (r : Reg) (mask val : Word) (rest : List Event), s.inbox = pollReg r mask val :: rest →
    ∃ t, step s = .next t ∧
      (s.readReg r &&& mask = val → t.inbox = rest ∧ t.reads = s.reads ++ [s.readReg r]) ∧
      (s.readReg r &&& mask ≠ val → t.inbox = .engineTurn none :: pollReg r mask val :: rest ∧ t.reads = s.reads) ∧
      t.regs = s.regs ∧ t.status = s.status ∧ t.pending = s.pending ∧ t.mem = s.mem
end

