-- ==== Sys2Proof/Laws/State.lean ====
section
/-! SUPPORT. What each named update leaves unchanged: one lemma per update and field, so that no later proof unfolds a
record update; and what each one writes, where that is one field. -/

namespace Sys2Proof.Machine

variable (s : State)

/-! ### setDone -/

@[simp] theorem State.setDone_regs : (s.setDone).regs = s.regs := rfl
@[simp] theorem State.setDone_pending : (s.setDone).pending = s.pending := rfl
@[simp] theorem State.setDone_mem : (s.setDone).mem = s.mem := rfl
@[simp] theorem State.setDone_rom : (s.setDone).rom = s.rom := rfl
@[simp] theorem State.setDone_platform : (s.setDone).platform = s.platform := rfl
@[simp] theorem State.setDone_faults : (s.setDone).faults = s.faults := rfl
@[simp] theorem State.setDone_neighbours : (s.setDone).neighbours = s.neighbours := rfl
@[simp] theorem State.setDone_collided : (s.setDone).collided = s.collided := rfl
@[simp] theorem State.setDone_unsynced : (s.setDone).unsynced = s.unsynced := rfl
@[simp] theorem State.setDone_hostCached : (s.setDone).hostCached = s.hostCached := rfl
@[simp] theorem State.setDone_hostDirty : (s.setDone).hostDirty = s.hostDirty := rfl
@[simp] theorem State.setDone_inbox : (s.setDone).inbox = s.inbox := rfl
@[simp] theorem State.setDone_reads : (s.setDone).reads = s.reads := rfl
@[simp] theorem State.setDone_returned : (s.setDone).returned = s.returned := rfl
@[simp] theorem State.setDone_draws : (s.setDone).draws = s.draws := rfl

/-! ### setDropped -/

@[simp] theorem State.setDropped_regs : (s.setDropped).regs = s.regs := rfl
@[simp] theorem State.setDropped_pending : (s.setDropped).pending = s.pending := rfl
@[simp] theorem State.setDropped_mem : (s.setDropped).mem = s.mem := rfl
@[simp] theorem State.setDropped_rom : (s.setDropped).rom = s.rom := rfl
@[simp] theorem State.setDropped_platform : (s.setDropped).platform = s.platform := rfl
@[simp] theorem State.setDropped_faults : (s.setDropped).faults = s.faults := rfl
@[simp] theorem State.setDropped_neighbours : (s.setDropped).neighbours = s.neighbours := rfl
@[simp] theorem State.setDropped_collided : (s.setDropped).collided = s.collided := rfl
@[simp] theorem State.setDropped_unsynced : (s.setDropped).unsynced = s.unsynced := rfl
@[simp] theorem State.setDropped_hostCached : (s.setDropped).hostCached = s.hostCached := rfl
@[simp] theorem State.setDropped_hostDirty : (s.setDropped).hostDirty = s.hostDirty := rfl
@[simp] theorem State.setDropped_inbox : (s.setDropped).inbox = s.inbox := rfl
@[simp] theorem State.setDropped_reads : (s.setDropped).reads = s.reads := rfl
@[simp] theorem State.setDropped_returned : (s.setDropped).returned = s.returned := rfl
@[simp] theorem State.setDropped_draws : (s.setDropped).draws = s.draws := rfl

/-! ### writeStatus -/

@[simp] theorem State.writeStatus_regs (w : Word) : (s.writeStatus w).regs = s.regs := rfl
@[simp] theorem State.writeStatus_pending (w : Word) : (s.writeStatus w).pending = s.pending := rfl
@[simp] theorem State.writeStatus_mem (w : Word) : (s.writeStatus w).mem = s.mem := rfl
@[simp] theorem State.writeStatus_rom (w : Word) : (s.writeStatus w).rom = s.rom := rfl
@[simp] theorem State.writeStatus_platform (w : Word) : (s.writeStatus w).platform = s.platform := rfl
@[simp] theorem State.writeStatus_faults (w : Word) : (s.writeStatus w).faults = s.faults := rfl
@[simp] theorem State.writeStatus_neighbours (w : Word) : (s.writeStatus w).neighbours = s.neighbours := rfl
@[simp] theorem State.writeStatus_collided (w : Word) : (s.writeStatus w).collided = s.collided := rfl
@[simp] theorem State.writeStatus_unsynced (w : Word) : (s.writeStatus w).unsynced = s.unsynced := rfl
@[simp] theorem State.writeStatus_hostCached (w : Word) : (s.writeStatus w).hostCached = s.hostCached := rfl
@[simp] theorem State.writeStatus_hostDirty (w : Word) : (s.writeStatus w).hostDirty = s.hostDirty := rfl
@[simp] theorem State.writeStatus_inbox (w : Word) : (s.writeStatus w).inbox = s.inbox := rfl
@[simp] theorem State.writeStatus_reads (w : Word) : (s.writeStatus w).reads = s.reads := rfl
@[simp] theorem State.writeStatus_returned (w : Word) : (s.writeStatus w).returned = s.returned := rfl
@[simp] theorem State.writeStatus_draws (w : Word) : (s.writeStatus w).draws = s.draws := rfl

/-! ### raiseErr -/

@[simp] theorem State.raiseErr_regs (e : ErrCode) : (s.raiseErr e).regs = s.regs := rfl
@[simp] theorem State.raiseErr_pending (e : ErrCode) : (s.raiseErr e).pending = s.pending := rfl
@[simp] theorem State.raiseErr_mem (e : ErrCode) : (s.raiseErr e).mem = s.mem := rfl
@[simp] theorem State.raiseErr_rom (e : ErrCode) : (s.raiseErr e).rom = s.rom := rfl
@[simp] theorem State.raiseErr_platform (e : ErrCode) : (s.raiseErr e).platform = s.platform := rfl
@[simp] theorem State.raiseErr_faults (e : ErrCode) : (s.raiseErr e).faults = s.faults := rfl
@[simp] theorem State.raiseErr_neighbours (e : ErrCode) : (s.raiseErr e).neighbours = s.neighbours := rfl
@[simp] theorem State.raiseErr_collided (e : ErrCode) : (s.raiseErr e).collided = s.collided := rfl
@[simp] theorem State.raiseErr_unsynced (e : ErrCode) : (s.raiseErr e).unsynced = s.unsynced := rfl
@[simp] theorem State.raiseErr_hostCached (e : ErrCode) : (s.raiseErr e).hostCached = s.hostCached := rfl
@[simp] theorem State.raiseErr_hostDirty (e : ErrCode) : (s.raiseErr e).hostDirty = s.hostDirty := rfl
@[simp] theorem State.raiseErr_inbox (e : ErrCode) : (s.raiseErr e).inbox = s.inbox := rfl
@[simp] theorem State.raiseErr_reads (e : ErrCode) : (s.raiseErr e).reads = s.reads := rfl
@[simp] theorem State.raiseErr_returned (e : ErrCode) : (s.raiseErr e).returned = s.returned := rfl
@[simp] theorem State.raiseErr_draws (e : ErrCode) : (s.raiseErr e).draws = s.draws := rfl

/-! ### recordFault -/

@[simp] theorem State.recordFault_regs (f : Fault) : (s.recordFault f).regs = s.regs := rfl
@[simp] theorem State.recordFault_status (f : Fault) : (s.recordFault f).status = s.status := rfl
@[simp] theorem State.recordFault_pending (f : Fault) : (s.recordFault f).pending = s.pending := rfl
@[simp] theorem State.recordFault_mem (f : Fault) : (s.recordFault f).mem = s.mem := rfl
@[simp] theorem State.recordFault_rom (f : Fault) : (s.recordFault f).rom = s.rom := rfl
@[simp] theorem State.recordFault_platform (f : Fault) : (s.recordFault f).platform = s.platform := rfl
@[simp] theorem State.recordFault_neighbours (f : Fault) : (s.recordFault f).neighbours = s.neighbours := rfl
@[simp] theorem State.recordFault_collided (f : Fault) : (s.recordFault f).collided = s.collided := rfl
@[simp] theorem State.recordFault_unsynced (f : Fault) : (s.recordFault f).unsynced = s.unsynced := rfl
@[simp] theorem State.recordFault_hostCached (f : Fault) : (s.recordFault f).hostCached = s.hostCached := rfl
@[simp] theorem State.recordFault_hostDirty (f : Fault) : (s.recordFault f).hostDirty = s.hostDirty := rfl
@[simp] theorem State.recordFault_inbox (f : Fault) : (s.recordFault f).inbox = s.inbox := rfl
@[simp] theorem State.recordFault_reads (f : Fault) : (s.recordFault f).reads = s.reads := rfl
@[simp] theorem State.recordFault_returned (f : Fault) : (s.recordFault f).returned = s.returned := rfl
@[simp] theorem State.recordFault_draws (f : Fault) : (s.recordFault f).draws = s.draws := rfl

/-! ### recordIf -/

@[simp] theorem State.recordIf_regs (c : Bool) (f : Fault) : (s.recordIf c f).regs = s.regs := by
  unfold State.recordIf; split <;> rfl
@[simp] theorem State.recordIf_status (c : Bool) (f : Fault) : (s.recordIf c f).status = s.status := by
  unfold State.recordIf; split <;> rfl
@[simp] theorem State.recordIf_pending (c : Bool) (f : Fault) : (s.recordIf c f).pending = s.pending := by
  unfold State.recordIf; split <;> rfl
@[simp] theorem State.recordIf_mem (c : Bool) (f : Fault) : (s.recordIf c f).mem = s.mem := by
  unfold State.recordIf; split <;> rfl
@[simp] theorem State.recordIf_rom (c : Bool) (f : Fault) : (s.recordIf c f).rom = s.rom := by
  unfold State.recordIf; split <;> rfl
@[simp] theorem State.recordIf_platform (c : Bool) (f : Fault) : (s.recordIf c f).platform = s.platform := by
  unfold State.recordIf; split <;> rfl
@[simp] theorem State.recordIf_neighbours (c : Bool) (f : Fault) : (s.recordIf c f).neighbours = s.neighbours := by
  unfold State.recordIf; split <;> rfl
@[simp] theorem State.recordIf_collided (c : Bool) (f : Fault) : (s.recordIf c f).collided = s.collided := by
  unfold State.recordIf; split <;> rfl
@[simp] theorem State.recordIf_unsynced (c : Bool) (f : Fault) : (s.recordIf c f).unsynced = s.unsynced := by
  unfold State.recordIf; split <;> rfl
@[simp] theorem State.recordIf_hostCached (c : Bool) (f : Fault) : (s.recordIf c f).hostCached = s.hostCached := by
  unfold State.recordIf; split <;> rfl
@[simp] theorem State.recordIf_hostDirty (c : Bool) (f : Fault) : (s.recordIf c f).hostDirty = s.hostDirty := by
  unfold State.recordIf; split <;> rfl
@[simp] theorem State.recordIf_inbox (c : Bool) (f : Fault) : (s.recordIf c f).inbox = s.inbox := by
  unfold State.recordIf; split <;> rfl
@[simp] theorem State.recordIf_reads (c : Bool) (f : Fault) : (s.recordIf c f).reads = s.reads := by
  unfold State.recordIf; split <;> rfl
@[simp] theorem State.recordIf_returned (c : Bool) (f : Fault) : (s.recordIf c f).returned = s.returned := by
  unfold State.recordIf; split <;> rfl
@[simp] theorem State.recordIf_draws (c : Bool) (f : Fault) : (s.recordIf c f).draws = s.draws := by
  unfold State.recordIf; split <;> rfl

/-! ### recordAcceptance -/

@[simp] theorem State.recordAcceptance_regs : (s.recordAcceptance).regs = s.regs := by
  simp [State.recordAcceptance]
@[simp] theorem State.recordAcceptance_status : (s.recordAcceptance).status = s.status := by
  simp [State.recordAcceptance]
@[simp] theorem State.recordAcceptance_pending : (s.recordAcceptance).pending = s.pending := by
  simp [State.recordAcceptance]
@[simp] theorem State.recordAcceptance_mem : (s.recordAcceptance).mem = s.mem := by
  simp [State.recordAcceptance]
@[simp] theorem State.recordAcceptance_rom : (s.recordAcceptance).rom = s.rom := by
  simp [State.recordAcceptance]
@[simp] theorem State.recordAcceptance_platform : (s.recordAcceptance).platform = s.platform := by
  simp [State.recordAcceptance]
@[simp] theorem State.recordAcceptance_neighbours : (s.recordAcceptance).neighbours = s.neighbours := by
  simp [State.recordAcceptance]
@[simp] theorem State.recordAcceptance_collided : (s.recordAcceptance).collided = s.collided := by
  simp [State.recordAcceptance]
@[simp] theorem State.recordAcceptance_unsynced : (s.recordAcceptance).unsynced = s.unsynced := by
  simp [State.recordAcceptance]
@[simp] theorem State.recordAcceptance_hostCached : (s.recordAcceptance).hostCached = s.hostCached := by
  simp [State.recordAcceptance]
@[simp] theorem State.recordAcceptance_hostDirty : (s.recordAcceptance).hostDirty = s.hostDirty := by
  simp [State.recordAcceptance]
@[simp] theorem State.recordAcceptance_inbox : (s.recordAcceptance).inbox = s.inbox := by
  simp [State.recordAcceptance]
@[simp] theorem State.recordAcceptance_reads : (s.recordAcceptance).reads = s.reads := by
  simp [State.recordAcceptance]
@[simp] theorem State.recordAcceptance_returned : (s.recordAcceptance).returned = s.returned := by
  simp [State.recordAcceptance]
@[simp] theorem State.recordAcceptance_draws : (s.recordAcceptance).draws = s.draws := by
  simp [State.recordAcceptance]

/-! ### accept -/

@[simp] theorem State.accept_regs : (s.accept).regs = s.regs := by
  simp [State.accept]
@[simp] theorem State.accept_status : (s.accept).status = s.status := by
  simp [State.accept]
@[simp] theorem State.accept_mem : (s.accept).mem = s.mem := by
  simp [State.accept]
@[simp] theorem State.accept_rom : (s.accept).rom = s.rom := by
  simp [State.accept]
@[simp] theorem State.accept_platform : (s.accept).platform = s.platform := by
  simp [State.accept]
@[simp] theorem State.accept_neighbours : (s.accept).neighbours = s.neighbours := by
  simp [State.accept]
@[simp] theorem State.accept_unsynced : (s.accept).unsynced = s.unsynced := by
  simp [State.accept]
@[simp] theorem State.accept_hostCached : (s.accept).hostCached = s.hostCached := by
  simp [State.accept]
@[simp] theorem State.accept_hostDirty : (s.accept).hostDirty = s.hostDirty := by
  simp [State.accept]
@[simp] theorem State.accept_inbox : (s.accept).inbox = s.inbox := by
  simp [State.accept]
@[simp] theorem State.accept_reads : (s.accept).reads = s.reads := by
  simp [State.accept]
@[simp] theorem State.accept_returned : (s.accept).returned = s.returned := by
  simp [State.accept]
@[simp] theorem State.accept_draws : (s.accept).draws = s.draws := by
  simp [State.accept]

/-! ### setReturned -/

@[simp] theorem State.setReturned_regs (v : Sample) : (s.setReturned v).regs = s.regs := rfl
@[simp] theorem State.setReturned_status (v : Sample) : (s.setReturned v).status = s.status := rfl
@[simp] theorem State.setReturned_pending (v : Sample) : (s.setReturned v).pending = s.pending := rfl
@[simp] theorem State.setReturned_mem (v : Sample) : (s.setReturned v).mem = s.mem := rfl
@[simp] theorem State.setReturned_rom (v : Sample) : (s.setReturned v).rom = s.rom := rfl
@[simp] theorem State.setReturned_platform (v : Sample) : (s.setReturned v).platform = s.platform := rfl
@[simp] theorem State.setReturned_faults (v : Sample) : (s.setReturned v).faults = s.faults := rfl
@[simp] theorem State.setReturned_neighbours (v : Sample) : (s.setReturned v).neighbours = s.neighbours := rfl
@[simp] theorem State.setReturned_collided (v : Sample) : (s.setReturned v).collided = s.collided := rfl
@[simp] theorem State.setReturned_unsynced (v : Sample) : (s.setReturned v).unsynced = s.unsynced := rfl
@[simp] theorem State.setReturned_hostCached (v : Sample) : (s.setReturned v).hostCached = s.hostCached := rfl
@[simp] theorem State.setReturned_hostDirty (v : Sample) : (s.setReturned v).hostDirty = s.hostDirty := rfl
@[simp] theorem State.setReturned_inbox (v : Sample) : (s.setReturned v).inbox = s.inbox := rfl
@[simp] theorem State.setReturned_reads (v : Sample) : (s.setReturned v).reads = s.reads := rfl
@[simp] theorem State.setReturned_draws (v : Sample) : (s.setReturned v).draws = s.draws := rfl

/-! ### tick -/

@[simp] theorem State.tick_regs : (s.tick).regs = s.regs := rfl
@[simp] theorem State.tick_status : (s.tick).status = s.status := rfl
@[simp] theorem State.tick_pending : (s.tick).pending = s.pending := rfl
@[simp] theorem State.tick_mem : (s.tick).mem = s.mem := rfl
@[simp] theorem State.tick_rom : (s.tick).rom = s.rom := rfl
@[simp] theorem State.tick_platform : (s.tick).platform = s.platform := rfl
@[simp] theorem State.tick_faults : (s.tick).faults = s.faults := rfl
@[simp] theorem State.tick_neighbours : (s.tick).neighbours = s.neighbours := rfl
@[simp] theorem State.tick_collided : (s.tick).collided = s.collided := rfl
@[simp] theorem State.tick_unsynced : (s.tick).unsynced = s.unsynced := rfl
@[simp] theorem State.tick_hostCached : (s.tick).hostCached = s.hostCached := rfl
@[simp] theorem State.tick_hostDirty : (s.tick).hostDirty = s.hostDirty := rfl
@[simp] theorem State.tick_inbox : (s.tick).inbox = s.inbox := rfl
@[simp] theorem State.tick_reads : (s.tick).reads = s.reads := rfl
@[simp] theorem State.tick_returned : (s.tick).returned = s.returned := rfl

/-! ### recordRead -/

@[simp] theorem State.recordRead_regs (v : Word) : (s.recordRead v).regs = s.regs := rfl
@[simp] theorem State.recordRead_status (v : Word) : (s.recordRead v).status = s.status := rfl
@[simp] theorem State.recordRead_pending (v : Word) : (s.recordRead v).pending = s.pending := rfl
@[simp] theorem State.recordRead_mem (v : Word) : (s.recordRead v).mem = s.mem := rfl
@[simp] theorem State.recordRead_rom (v : Word) : (s.recordRead v).rom = s.rom := rfl
@[simp] theorem State.recordRead_platform (v : Word) : (s.recordRead v).platform = s.platform := rfl
@[simp] theorem State.recordRead_faults (v : Word) : (s.recordRead v).faults = s.faults := rfl
@[simp] theorem State.recordRead_neighbours (v : Word) : (s.recordRead v).neighbours = s.neighbours := rfl
@[simp] theorem State.recordRead_collided (v : Word) : (s.recordRead v).collided = s.collided := rfl
@[simp] theorem State.recordRead_unsynced (v : Word) : (s.recordRead v).unsynced = s.unsynced := rfl
@[simp] theorem State.recordRead_hostCached (v : Word) : (s.recordRead v).hostCached = s.hostCached := rfl
@[simp] theorem State.recordRead_hostDirty (v : Word) : (s.recordRead v).hostDirty = s.hostDirty := rfl
@[simp] theorem State.recordRead_inbox (v : Word) : (s.recordRead v).inbox = s.inbox := rfl
@[simp] theorem State.recordRead_returned (v : Word) : (s.recordRead v).returned = s.returned := rfl
@[simp] theorem State.recordRead_draws (v : Word) : (s.recordRead v).draws = s.draws := rfl

/-! ### setInbox -/

@[simp] theorem State.setInbox_regs (l : List Event) : (s.setInbox l).regs = s.regs := rfl
@[simp] theorem State.setInbox_status (l : List Event) : (s.setInbox l).status = s.status := rfl
@[simp] theorem State.setInbox_pending (l : List Event) : (s.setInbox l).pending = s.pending := rfl
@[simp] theorem State.setInbox_mem (l : List Event) : (s.setInbox l).mem = s.mem := rfl
@[simp] theorem State.setInbox_rom (l : List Event) : (s.setInbox l).rom = s.rom := rfl
@[simp] theorem State.setInbox_platform (l : List Event) : (s.setInbox l).platform = s.platform := rfl
@[simp] theorem State.setInbox_faults (l : List Event) : (s.setInbox l).faults = s.faults := rfl
@[simp] theorem State.setInbox_neighbours (l : List Event) : (s.setInbox l).neighbours = s.neighbours := rfl
@[simp] theorem State.setInbox_collided (l : List Event) : (s.setInbox l).collided = s.collided := rfl
@[simp] theorem State.setInbox_unsynced (l : List Event) : (s.setInbox l).unsynced = s.unsynced := rfl
@[simp] theorem State.setInbox_hostCached (l : List Event) : (s.setInbox l).hostCached = s.hostCached := rfl
@[simp] theorem State.setInbox_hostDirty (l : List Event) : (s.setInbox l).hostDirty = s.hostDirty := rfl
@[simp] theorem State.setInbox_reads (l : List Event) : (s.setInbox l).reads = s.reads := rfl
@[simp] theorem State.setInbox_returned (l : List Event) : (s.setInbox l).returned = s.returned := rfl
@[simp] theorem State.setInbox_draws (l : List Event) : (s.setInbox l).draws = s.draws := rfl

/-! ### popInbox -/

@[simp] theorem State.popInbox_regs : (s.popInbox).regs = s.regs := rfl
@[simp] theorem State.popInbox_status : (s.popInbox).status = s.status := rfl
@[simp] theorem State.popInbox_pending : (s.popInbox).pending = s.pending := rfl
@[simp] theorem State.popInbox_mem : (s.popInbox).mem = s.mem := rfl
@[simp] theorem State.popInbox_rom : (s.popInbox).rom = s.rom := rfl
@[simp] theorem State.popInbox_platform : (s.popInbox).platform = s.platform := rfl
@[simp] theorem State.popInbox_faults : (s.popInbox).faults = s.faults := rfl
@[simp] theorem State.popInbox_neighbours : (s.popInbox).neighbours = s.neighbours := rfl
@[simp] theorem State.popInbox_collided : (s.popInbox).collided = s.collided := rfl
@[simp] theorem State.popInbox_unsynced : (s.popInbox).unsynced = s.unsynced := rfl
@[simp] theorem State.popInbox_hostCached : (s.popInbox).hostCached = s.hostCached := rfl
@[simp] theorem State.popInbox_hostDirty : (s.popInbox).hostDirty = s.hostDirty := rfl
@[simp] theorem State.popInbox_reads : (s.popInbox).reads = s.reads := rfl
@[simp] theorem State.popInbox_returned : (s.popInbox).returned = s.returned := rfl
@[simp] theorem State.popInbox_draws : (s.popInbox).draws = s.draws := rfl

/-! ### syncHost -/

@[simp] theorem State.syncHost_regs : (s.syncHost).regs = s.regs := rfl
@[simp] theorem State.syncHost_status : (s.syncHost).status = s.status := rfl
@[simp] theorem State.syncHost_pending : (s.syncHost).pending = s.pending := rfl
@[simp] theorem State.syncHost_mem : (s.syncHost).mem = s.mem := rfl
@[simp] theorem State.syncHost_rom : (s.syncHost).rom = s.rom := rfl
@[simp] theorem State.syncHost_platform : (s.syncHost).platform = s.platform := rfl
@[simp] theorem State.syncHost_faults : (s.syncHost).faults = s.faults := rfl
@[simp] theorem State.syncHost_neighbours : (s.syncHost).neighbours = s.neighbours := rfl
@[simp] theorem State.syncHost_collided : (s.syncHost).collided = s.collided := rfl
@[simp] theorem State.syncHost_hostDirty : (s.syncHost).hostDirty = s.hostDirty := rfl
@[simp] theorem State.syncHost_inbox : (s.syncHost).inbox = s.inbox := rfl
@[simp] theorem State.syncHost_reads : (s.syncHost).reads = s.reads := rfl
@[simp] theorem State.syncHost_returned : (s.syncHost).returned = s.returned := rfl
@[simp] theorem State.syncHost_draws : (s.syncHost).draws = s.draws := rfl

/-! ### afterRead -/

@[simp] theorem State.afterRead_regs (off : BitVec 8) : (s.afterRead off).regs = s.regs := by
  unfold State.afterRead; split <;> rfl
@[simp] theorem State.afterRead_status (off : BitVec 8) : (s.afterRead off).status = s.status := by
  unfold State.afterRead; split <;> rfl
@[simp] theorem State.afterRead_pending (off : BitVec 8) : (s.afterRead off).pending = s.pending := by
  unfold State.afterRead; split <;> rfl
@[simp] theorem State.afterRead_mem (off : BitVec 8) : (s.afterRead off).mem = s.mem := by
  unfold State.afterRead; split <;> rfl
@[simp] theorem State.afterRead_rom (off : BitVec 8) : (s.afterRead off).rom = s.rom := by
  unfold State.afterRead; split <;> rfl
@[simp] theorem State.afterRead_platform (off : BitVec 8) : (s.afterRead off).platform = s.platform := by
  unfold State.afterRead; split <;> rfl
@[simp] theorem State.afterRead_faults (off : BitVec 8) : (s.afterRead off).faults = s.faults := by
  unfold State.afterRead; split <;> rfl
@[simp] theorem State.afterRead_neighbours (off : BitVec 8) : (s.afterRead off).neighbours = s.neighbours := by
  unfold State.afterRead; split <;> rfl
@[simp] theorem State.afterRead_collided (off : BitVec 8) : (s.afterRead off).collided = s.collided := by
  unfold State.afterRead; split <;> rfl
@[simp] theorem State.afterRead_hostDirty (off : BitVec 8) : (s.afterRead off).hostDirty = s.hostDirty := by
  unfold State.afterRead; split <;> rfl
@[simp] theorem State.afterRead_inbox (off : BitVec 8) : (s.afterRead off).inbox = s.inbox := by
  unfold State.afterRead; split <;> rfl
@[simp] theorem State.afterRead_reads (off : BitVec 8) : (s.afterRead off).reads = s.reads := by
  unfold State.afterRead; split <;> rfl
@[simp] theorem State.afterRead_returned (off : BitVec 8) : (s.afterRead off).returned = s.returned := by
  unfold State.afterRead; split <;> rfl
@[simp] theorem State.afterRead_draws (off : BitVec 8) : (s.afterRead off).draws = s.draws := by
  unfold State.afterRead; split <;> rfl

/-! ### writeConfig -/

@[simp] theorem State.writeConfig_pending (r : Reg) (w : Word) : (s.writeConfig r w).pending = s.pending := by
  unfold State.writeConfig; split <;> rfl
@[simp] theorem State.writeConfig_mem (r : Reg) (w : Word) : (s.writeConfig r w).mem = s.mem := by
  unfold State.writeConfig; split <;> rfl
@[simp] theorem State.writeConfig_rom (r : Reg) (w : Word) : (s.writeConfig r w).rom = s.rom := by
  unfold State.writeConfig; split <;> rfl
@[simp] theorem State.writeConfig_platform (r : Reg) (w : Word) : (s.writeConfig r w).platform = s.platform := by
  unfold State.writeConfig; split <;> rfl
@[simp] theorem State.writeConfig_faults (r : Reg) (w : Word) : (s.writeConfig r w).faults = s.faults := by
  unfold State.writeConfig; split <;> rfl
@[simp] theorem State.writeConfig_neighbours (r : Reg) (w : Word) : (s.writeConfig r w).neighbours = s.neighbours := by
  unfold State.writeConfig; split <;> rfl
@[simp] theorem State.writeConfig_collided (r : Reg) (w : Word) : (s.writeConfig r w).collided = s.collided := by
  unfold State.writeConfig; split <;> rfl
@[simp] theorem State.writeConfig_unsynced (r : Reg) (w : Word) : (s.writeConfig r w).unsynced = s.unsynced := by
  unfold State.writeConfig; split <;> rfl
@[simp] theorem State.writeConfig_hostCached (r : Reg) (w : Word) : (s.writeConfig r w).hostCached = s.hostCached := by
  unfold State.writeConfig; split <;> rfl
@[simp] theorem State.writeConfig_hostDirty (r : Reg) (w : Word) : (s.writeConfig r w).hostDirty = s.hostDirty := by
  unfold State.writeConfig; split <;> rfl
@[simp] theorem State.writeConfig_inbox (r : Reg) (w : Word) : (s.writeConfig r w).inbox = s.inbox := by
  unfold State.writeConfig; split <;> rfl
@[simp] theorem State.writeConfig_reads (r : Reg) (w : Word) : (s.writeConfig r w).reads = s.reads := by
  unfold State.writeConfig; split <;> rfl
@[simp] theorem State.writeConfig_returned (r : Reg) (w : Word) : (s.writeConfig r w).returned = s.returned := by
  unfold State.writeConfig; split <;> rfl
@[simp] theorem State.writeConfig_draws (r : Reg) (w : Word) : (s.writeConfig r w).draws = s.draws := by
  unfold State.writeConfig; split <;> rfl

/-! ### issueTransform -/

@[simp] theorem State.issueTransform_regs : (s.issueTransform).regs = s.regs := by
  unfold State.issueTransform; split
  · split <;> simp
  · rfl
@[simp] theorem State.issueTransform_mem : (s.issueTransform).mem = s.mem := by
  unfold State.issueTransform; split
  · split <;> simp
  · rfl
@[simp] theorem State.issueTransform_rom : (s.issueTransform).rom = s.rom := by
  unfold State.issueTransform; split
  · split <;> simp
  · rfl
@[simp] theorem State.issueTransform_platform : (s.issueTransform).platform = s.platform := by
  unfold State.issueTransform; split
  · split <;> simp
  · rfl
@[simp] theorem State.issueTransform_neighbours : (s.issueTransform).neighbours = s.neighbours := by
  unfold State.issueTransform; split
  · split <;> simp
  · rfl
@[simp] theorem State.issueTransform_unsynced : (s.issueTransform).unsynced = s.unsynced := by
  unfold State.issueTransform; split
  · split <;> simp
  · rfl
@[simp] theorem State.issueTransform_hostCached : (s.issueTransform).hostCached = s.hostCached := by
  unfold State.issueTransform; split
  · split <;> simp
  · rfl
@[simp] theorem State.issueTransform_hostDirty : (s.issueTransform).hostDirty = s.hostDirty := by
  unfold State.issueTransform; split
  · split <;> simp
  · rfl
@[simp] theorem State.issueTransform_inbox : (s.issueTransform).inbox = s.inbox := by
  unfold State.issueTransform; split
  · split <;> simp
  · rfl
@[simp] theorem State.issueTransform_reads : (s.issueTransform).reads = s.reads := by
  unfold State.issueTransform; split
  · split <;> simp
  · rfl
@[simp] theorem State.issueTransform_returned : (s.issueTransform).returned = s.returned := by
  unfold State.issueTransform; split
  · split <;> simp
  · rfl
@[simp] theorem State.issueTransform_draws : (s.issueTransform).draws = s.draws := by
  unfold State.issueTransform; split
  · split <;> simp
  · rfl

/-! ### engineStoreByte -/

@[simp] theorem State.engineStoreByte_regs (a : Nat) (b : Byte) : (s.engineStoreByte a b).regs = s.regs := by
  unfold State.engineStoreByte; split <;> rfl
@[simp] theorem State.engineStoreByte_status (a : Nat) (b : Byte) : (s.engineStoreByte a b).status = s.status := by
  unfold State.engineStoreByte; split <;> rfl
@[simp] theorem State.engineStoreByte_pending (a : Nat) (b : Byte) : (s.engineStoreByte a b).pending = s.pending := by
  unfold State.engineStoreByte; split <;> rfl
@[simp] theorem State.engineStoreByte_rom (a : Nat) (b : Byte) : (s.engineStoreByte a b).rom = s.rom := by
  unfold State.engineStoreByte; split <;> rfl
@[simp] theorem State.engineStoreByte_platform (a : Nat) (b : Byte) : (s.engineStoreByte a b).platform = s.platform := by
  unfold State.engineStoreByte; split <;> rfl
@[simp] theorem State.engineStoreByte_faults (a : Nat) (b : Byte) : (s.engineStoreByte a b).faults = s.faults := by
  unfold State.engineStoreByte; split <;> rfl
@[simp] theorem State.engineStoreByte_neighbours (a : Nat) (b : Byte) : (s.engineStoreByte a b).neighbours = s.neighbours := by
  unfold State.engineStoreByte; split <;> rfl
@[simp] theorem State.engineStoreByte_collided (a : Nat) (b : Byte) : (s.engineStoreByte a b).collided = s.collided := by
  unfold State.engineStoreByte; split <;> rfl
@[simp] theorem State.engineStoreByte_hostCached (a : Nat) (b : Byte) : (s.engineStoreByte a b).hostCached = s.hostCached := by
  unfold State.engineStoreByte; split <;> rfl
@[simp] theorem State.engineStoreByte_inbox (a : Nat) (b : Byte) : (s.engineStoreByte a b).inbox = s.inbox := by
  unfold State.engineStoreByte; split <;> rfl
@[simp] theorem State.engineStoreByte_reads (a : Nat) (b : Byte) : (s.engineStoreByte a b).reads = s.reads := by
  unfold State.engineStoreByte; split <;> rfl
@[simp] theorem State.engineStoreByte_returned (a : Nat) (b : Byte) : (s.engineStoreByte a b).returned = s.returned := by
  unfold State.engineStoreByte; split <;> rfl
@[simp] theorem State.engineStoreByte_draws (a : Nat) (b : Byte) : (s.engineStoreByte a b).draws = s.draws := by
  unfold State.engineStoreByte; split <;> rfl

/-! ### hostStoreByte -/

@[simp] theorem State.hostStoreByte_regs (a : Nat) (b : Byte) : (s.hostStoreByte a b).regs = s.regs := by
  unfold State.hostStoreByte; split <;> rfl
@[simp] theorem State.hostStoreByte_status (a : Nat) (b : Byte) : (s.hostStoreByte a b).status = s.status := by
  unfold State.hostStoreByte; split <;> rfl
@[simp] theorem State.hostStoreByte_pending (a : Nat) (b : Byte) : (s.hostStoreByte a b).pending = s.pending := by
  unfold State.hostStoreByte; split <;> rfl
@[simp] theorem State.hostStoreByte_rom (a : Nat) (b : Byte) : (s.hostStoreByte a b).rom = s.rom := by
  unfold State.hostStoreByte; split <;> rfl
@[simp] theorem State.hostStoreByte_platform (a : Nat) (b : Byte) : (s.hostStoreByte a b).platform = s.platform := by
  unfold State.hostStoreByte; split <;> rfl
@[simp] theorem State.hostStoreByte_faults (a : Nat) (b : Byte) : (s.hostStoreByte a b).faults = s.faults := by
  unfold State.hostStoreByte; split <;> rfl
@[simp] theorem State.hostStoreByte_neighbours (a : Nat) (b : Byte) : (s.hostStoreByte a b).neighbours = s.neighbours := by
  unfold State.hostStoreByte; split <;> rfl
@[simp] theorem State.hostStoreByte_collided (a : Nat) (b : Byte) : (s.hostStoreByte a b).collided = s.collided := by
  unfold State.hostStoreByte; split <;> rfl
@[simp] theorem State.hostStoreByte_inbox (a : Nat) (b : Byte) : (s.hostStoreByte a b).inbox = s.inbox := by
  unfold State.hostStoreByte; split <;> rfl
@[simp] theorem State.hostStoreByte_reads (a : Nat) (b : Byte) : (s.hostStoreByte a b).reads = s.reads := by
  unfold State.hostStoreByte; split <;> rfl
@[simp] theorem State.hostStoreByte_returned (a : Nat) (b : Byte) : (s.hostStoreByte a b).returned = s.returned := by
  unfold State.hostStoreByte; split <;> rfl
@[simp] theorem State.hostStoreByte_draws (a : Nat) (b : Byte) : (s.hostStoreByte a b).draws = s.draws := by
  unfold State.hostStoreByte; split <;> rfl

/-! ### neighbourStoreByte -/

@[simp] theorem State.neighbourStoreByte_regs (a : Nat) (b : Byte) : (s.neighbourStoreByte a b).regs = s.regs := by
  unfold State.neighbourStoreByte; split <;> rfl
@[simp] theorem State.neighbourStoreByte_status (a : Nat) (b : Byte) : (s.neighbourStoreByte a b).status = s.status := by
  unfold State.neighbourStoreByte; split <;> rfl
@[simp] theorem State.neighbourStoreByte_pending (a : Nat) (b : Byte) : (s.neighbourStoreByte a b).pending = s.pending := by
  unfold State.neighbourStoreByte; split <;> rfl
@[simp] theorem State.neighbourStoreByte_rom (a : Nat) (b : Byte) : (s.neighbourStoreByte a b).rom = s.rom := by
  unfold State.neighbourStoreByte; split <;> rfl
@[simp] theorem State.neighbourStoreByte_platform (a : Nat) (b : Byte) : (s.neighbourStoreByte a b).platform = s.platform := by
  unfold State.neighbourStoreByte; split <;> rfl
@[simp] theorem State.neighbourStoreByte_faults (a : Nat) (b : Byte) : (s.neighbourStoreByte a b).faults = s.faults := by
  unfold State.neighbourStoreByte; split <;> rfl
@[simp] theorem State.neighbourStoreByte_neighbours (a : Nat) (b : Byte) : (s.neighbourStoreByte a b).neighbours = s.neighbours := by
  unfold State.neighbourStoreByte; split <;> rfl
@[simp] theorem State.neighbourStoreByte_collided (a : Nat) (b : Byte) : (s.neighbourStoreByte a b).collided = s.collided := by
  unfold State.neighbourStoreByte; split <;> rfl
@[simp] theorem State.neighbourStoreByte_unsynced (a : Nat) (b : Byte) : (s.neighbourStoreByte a b).unsynced = s.unsynced := by
  unfold State.neighbourStoreByte; split <;> rfl
@[simp] theorem State.neighbourStoreByte_hostCached (a : Nat) (b : Byte) : (s.neighbourStoreByte a b).hostCached = s.hostCached := by
  unfold State.neighbourStoreByte; split <;> rfl
@[simp] theorem State.neighbourStoreByte_hostDirty (a : Nat) (b : Byte) : (s.neighbourStoreByte a b).hostDirty = s.hostDirty := by
  unfold State.neighbourStoreByte; split <;> rfl
@[simp] theorem State.neighbourStoreByte_inbox (a : Nat) (b : Byte) : (s.neighbourStoreByte a b).inbox = s.inbox := by
  unfold State.neighbourStoreByte; split <;> rfl
@[simp] theorem State.neighbourStoreByte_reads (a : Nat) (b : Byte) : (s.neighbourStoreByte a b).reads = s.reads := by
  unfold State.neighbourStoreByte; split <;> rfl
@[simp] theorem State.neighbourStoreByte_returned (a : Nat) (b : Byte) : (s.neighbourStoreByte a b).returned = s.returned := by
  unfold State.neighbourStoreByte; split <;> rfl
@[simp] theorem State.neighbourStoreByte_draws (a : Nat) (b : Byte) : (s.neighbourStoreByte a b).draws = s.draws := by
  unfold State.neighbourStoreByte; split <;> rfl

/-! ### engineStore -/

@[simp] theorem State.engineStore_regs (a n : Nat) (v : Sample) : (s.engineStore a n v).regs = s.regs := by
  unfold State.engineStore; split <;> simp
@[simp] theorem State.engineStore_status (a n : Nat) (v : Sample) : (s.engineStore a n v).status = s.status := by
  unfold State.engineStore; split <;> simp
@[simp] theorem State.engineStore_pending (a n : Nat) (v : Sample) : (s.engineStore a n v).pending = s.pending := by
  unfold State.engineStore; split <;> simp
@[simp] theorem State.engineStore_rom (a n : Nat) (v : Sample) : (s.engineStore a n v).rom = s.rom := by
  unfold State.engineStore; split <;> simp
@[simp] theorem State.engineStore_platform (a n : Nat) (v : Sample) : (s.engineStore a n v).platform = s.platform := by
  unfold State.engineStore; split <;> simp
@[simp] theorem State.engineStore_faults (a n : Nat) (v : Sample) : (s.engineStore a n v).faults = s.faults := by
  unfold State.engineStore; split <;> simp
@[simp] theorem State.engineStore_neighbours (a n : Nat) (v : Sample) : (s.engineStore a n v).neighbours = s.neighbours := by
  unfold State.engineStore; split <;> simp
@[simp] theorem State.engineStore_collided (a n : Nat) (v : Sample) : (s.engineStore a n v).collided = s.collided := by
  unfold State.engineStore; split <;> simp
@[simp] theorem State.engineStore_hostCached (a n : Nat) (v : Sample) : (s.engineStore a n v).hostCached = s.hostCached := by
  unfold State.engineStore; split <;> simp
@[simp] theorem State.engineStore_inbox (a n : Nat) (v : Sample) : (s.engineStore a n v).inbox = s.inbox := by
  unfold State.engineStore; split <;> simp
@[simp] theorem State.engineStore_reads (a n : Nat) (v : Sample) : (s.engineStore a n v).reads = s.reads := by
  unfold State.engineStore; split <;> simp
@[simp] theorem State.engineStore_returned (a n : Nat) (v : Sample) : (s.engineStore a n v).returned = s.returned := by
  unfold State.engineStore; split <;> simp
@[simp] theorem State.engineStore_draws (a n : Nat) (v : Sample) : (s.engineStore a n v).draws = s.draws := by
  unfold State.engineStore; split <;> simp

/-! ### finishSample -/

@[simp] theorem State.finishSample_regs (c : Coord) : (s.finishSample c).regs = s.regs := by
  unfold State.finishSample; split <;> rfl
@[simp] theorem State.finishSample_mem (c : Coord) : (s.finishSample c).mem = s.mem := by
  unfold State.finishSample; split <;> rfl
@[simp] theorem State.finishSample_rom (c : Coord) : (s.finishSample c).rom = s.rom := by
  unfold State.finishSample; split <;> rfl
@[simp] theorem State.finishSample_platform (c : Coord) : (s.finishSample c).platform = s.platform := by
  unfold State.finishSample; split <;> rfl
@[simp] theorem State.finishSample_faults (c : Coord) : (s.finishSample c).faults = s.faults := by
  unfold State.finishSample; split <;> rfl
@[simp] theorem State.finishSample_neighbours (c : Coord) : (s.finishSample c).neighbours = s.neighbours := by
  unfold State.finishSample; split <;> rfl
@[simp] theorem State.finishSample_collided (c : Coord) : (s.finishSample c).collided = s.collided := by
  unfold State.finishSample; split <;> rfl
@[simp] theorem State.finishSample_unsynced (c : Coord) : (s.finishSample c).unsynced = s.unsynced := by
  unfold State.finishSample; split <;> rfl
@[simp] theorem State.finishSample_hostCached (c : Coord) : (s.finishSample c).hostCached = s.hostCached := by
  unfold State.finishSample; split <;> rfl
@[simp] theorem State.finishSample_hostDirty (c : Coord) : (s.finishSample c).hostDirty = s.hostDirty := by
  unfold State.finishSample; split <;> rfl
@[simp] theorem State.finishSample_inbox (c : Coord) : (s.finishSample c).inbox = s.inbox := by
  unfold State.finishSample; split <;> rfl
@[simp] theorem State.finishSample_reads (c : Coord) : (s.finishSample c).reads = s.reads := by
  unfold State.finishSample; split <;> rfl
@[simp] theorem State.finishSample_returned (c : Coord) : (s.finishSample c).returned = s.returned := by
  unfold State.finishSample; split <;> rfl
@[simp] theorem State.finishSample_draws (c : Coord) : (s.finishSample c).draws = s.draws := by
  unfold State.finishSample; split <;> rfl

/-! ### scramble -/

@[simp] theorem State.scramble_regs (c : Coord) : (s.scramble c).regs = s.regs := by
  simp [State.scramble]
@[simp] theorem State.scramble_status (c : Coord) : (s.scramble c).status = s.status := by
  simp [State.scramble]
@[simp] theorem State.scramble_pending (c : Coord) : (s.scramble c).pending = s.pending := by
  simp [State.scramble]
@[simp] theorem State.scramble_rom (c : Coord) : (s.scramble c).rom = s.rom := by
  simp [State.scramble]
@[simp] theorem State.scramble_platform (c : Coord) : (s.scramble c).platform = s.platform := by
  simp [State.scramble]
@[simp] theorem State.scramble_faults (c : Coord) : (s.scramble c).faults = s.faults := by
  simp [State.scramble]
@[simp] theorem State.scramble_neighbours (c : Coord) : (s.scramble c).neighbours = s.neighbours := by
  simp [State.scramble]
@[simp] theorem State.scramble_collided (c : Coord) : (s.scramble c).collided = s.collided := by
  simp [State.scramble]
@[simp] theorem State.scramble_hostCached (c : Coord) : (s.scramble c).hostCached = s.hostCached := by
  simp [State.scramble]
@[simp] theorem State.scramble_inbox (c : Coord) : (s.scramble c).inbox = s.inbox := by
  simp [State.scramble]
@[simp] theorem State.scramble_reads (c : Coord) : (s.scramble c).reads = s.reads := by
  simp [State.scramble]
@[simp] theorem State.scramble_returned (c : Coord) : (s.scramble c).returned = s.returned := by
  simp [State.scramble]
@[simp] theorem State.scramble_draws (c : Coord) : (s.scramble c).draws = s.draws := by
  simp [State.scramble]

/-! ### scrambleInFlight -/

@[simp] theorem State.scrambleInFlight_regs : (s.scrambleInFlight).regs = s.regs := by
  unfold State.scrambleInFlight; split <;> simp
@[simp] theorem State.scrambleInFlight_status : (s.scrambleInFlight).status = s.status := by
  unfold State.scrambleInFlight; split <;> simp
@[simp] theorem State.scrambleInFlight_pending : (s.scrambleInFlight).pending = s.pending := by
  unfold State.scrambleInFlight; split <;> simp
@[simp] theorem State.scrambleInFlight_rom : (s.scrambleInFlight).rom = s.rom := by
  unfold State.scrambleInFlight; split <;> simp
@[simp] theorem State.scrambleInFlight_platform : (s.scrambleInFlight).platform = s.platform := by
  unfold State.scrambleInFlight; split <;> simp
@[simp] theorem State.scrambleInFlight_faults : (s.scrambleInFlight).faults = s.faults := by
  unfold State.scrambleInFlight; split <;> simp
@[simp] theorem State.scrambleInFlight_neighbours : (s.scrambleInFlight).neighbours = s.neighbours := by
  unfold State.scrambleInFlight; split <;> simp
@[simp] theorem State.scrambleInFlight_collided : (s.scrambleInFlight).collided = s.collided := by
  unfold State.scrambleInFlight; split <;> simp
@[simp] theorem State.scrambleInFlight_hostCached : (s.scrambleInFlight).hostCached = s.hostCached := by
  unfold State.scrambleInFlight; split <;> simp
@[simp] theorem State.scrambleInFlight_inbox : (s.scrambleInFlight).inbox = s.inbox := by
  unfold State.scrambleInFlight; split <;> simp
@[simp] theorem State.scrambleInFlight_reads : (s.scrambleInFlight).reads = s.reads := by
  unfold State.scrambleInFlight; split <;> simp
@[simp] theorem State.scrambleInFlight_returned : (s.scrambleInFlight).returned = s.returned := by
  unfold State.scrambleInFlight; split <;> simp
@[simp] theorem State.scrambleInFlight_draws : (s.scrambleInFlight).draws = s.draws := by
  unfold State.scrambleInFlight; split <;> simp

/-! ### raiseMemFault -/

@[simp] theorem State.raiseMemFault_regs : (s.raiseMemFault).regs = s.regs := rfl
@[simp] theorem State.raiseMemFault_mem : (s.raiseMemFault).mem = s.mem := rfl
@[simp] theorem State.raiseMemFault_rom : (s.raiseMemFault).rom = s.rom := rfl
@[simp] theorem State.raiseMemFault_platform : (s.raiseMemFault).platform = s.platform := rfl
@[simp] theorem State.raiseMemFault_faults : (s.raiseMemFault).faults = s.faults := rfl
@[simp] theorem State.raiseMemFault_neighbours : (s.raiseMemFault).neighbours = s.neighbours := rfl
@[simp] theorem State.raiseMemFault_collided : (s.raiseMemFault).collided = s.collided := rfl
@[simp] theorem State.raiseMemFault_unsynced : (s.raiseMemFault).unsynced = s.unsynced := rfl
@[simp] theorem State.raiseMemFault_hostCached : (s.raiseMemFault).hostCached = s.hostCached := rfl
@[simp] theorem State.raiseMemFault_hostDirty : (s.raiseMemFault).hostDirty = s.hostDirty := rfl
@[simp] theorem State.raiseMemFault_inbox : (s.raiseMemFault).inbox = s.inbox := rfl
@[simp] theorem State.raiseMemFault_reads : (s.raiseMemFault).reads = s.reads := rfl
@[simp] theorem State.raiseMemFault_returned : (s.raiseMemFault).returned = s.returned := rfl

/-! ### abort -/

@[simp] theorem State.abort_regs (c : Coord) : (s.abort c).regs = s.regs := by
  simp [State.abort]
@[simp] theorem State.abort_rom (c : Coord) : (s.abort c).rom = s.rom := by
  simp [State.abort]
@[simp] theorem State.abort_platform (c : Coord) : (s.abort c).platform = s.platform := by
  simp [State.abort]
@[simp] theorem State.abort_faults (c : Coord) : (s.abort c).faults = s.faults := by
  simp [State.abort]
@[simp] theorem State.abort_neighbours (c : Coord) : (s.abort c).neighbours = s.neighbours := by
  simp [State.abort]
@[simp] theorem State.abort_collided (c : Coord) : (s.abort c).collided = s.collided := by
  simp [State.abort]
@[simp] theorem State.abort_hostCached (c : Coord) : (s.abort c).hostCached = s.hostCached := by
  simp [State.abort]
@[simp] theorem State.abort_inbox (c : Coord) : (s.abort c).inbox = s.inbox := by
  simp [State.abort]
@[simp] theorem State.abort_reads (c : Coord) : (s.abort c).reads = s.reads := by
  simp [State.abort]
@[simp] theorem State.abort_returned (c : Coord) : (s.abort c).returned = s.returned := by
  simp [State.abort]

/-! ### abortOnRead -/

@[simp] theorem State.abortOnRead_regs : s.abortOnRead.regs = s.regs := by
  simp [State.abortOnRead]
@[simp] theorem State.abortOnRead_rom : s.abortOnRead.rom = s.rom := by
  simp [State.abortOnRead]
@[simp] theorem State.abortOnRead_platform : s.abortOnRead.platform = s.platform := by
  simp [State.abortOnRead]
@[simp] theorem State.abortOnRead_faults : s.abortOnRead.faults = s.faults := by
  simp [State.abortOnRead]
@[simp] theorem State.abortOnRead_neighbours : s.abortOnRead.neighbours = s.neighbours := by
  simp [State.abortOnRead]
@[simp] theorem State.abortOnRead_collided : s.abortOnRead.collided = s.collided := by
  simp [State.abortOnRead]
@[simp] theorem State.abortOnRead_hostCached : s.abortOnRead.hostCached = s.hostCached := by
  simp [State.abortOnRead]
@[simp] theorem State.abortOnRead_inbox : s.abortOnRead.inbox = s.inbox := by
  simp [State.abortOnRead]
@[simp] theorem State.abortOnRead_reads : s.abortOnRead.reads = s.reads := by
  simp [State.abortOnRead]
@[simp] theorem State.abortOnRead_returned : s.abortOnRead.returned = s.returned := by
  simp [State.abortOnRead]

/-! ### writeSample -/

@[simp] theorem State.writeSample_regs (c : Coord) (out : Sample) : (s.writeSample c out).regs = s.regs := by
  simp [State.writeSample]
@[simp] theorem State.writeSample_rom (c : Coord) (out : Sample) : (s.writeSample c out).rom = s.rom := by
  simp [State.writeSample]
@[simp] theorem State.writeSample_platform (c : Coord) (out : Sample) : (s.writeSample c out).platform = s.platform := by
  simp [State.writeSample]
@[simp] theorem State.writeSample_faults (c : Coord) (out : Sample) : (s.writeSample c out).faults = s.faults := by
  simp [State.writeSample]
@[simp] theorem State.writeSample_neighbours (c : Coord) (out : Sample) : (s.writeSample c out).neighbours = s.neighbours := by
  simp [State.writeSample]
@[simp] theorem State.writeSample_collided (c : Coord) (out : Sample) : (s.writeSample c out).collided = s.collided := by
  simp [State.writeSample]
@[simp] theorem State.writeSample_hostCached (c : Coord) (out : Sample) : (s.writeSample c out).hostCached = s.hostCached := by
  simp [State.writeSample]
@[simp] theorem State.writeSample_inbox (c : Coord) (out : Sample) : (s.writeSample c out).inbox = s.inbox := by
  simp [State.writeSample]
@[simp] theorem State.writeSample_reads (c : Coord) (out : Sample) : (s.writeSample c out).reads = s.reads := by
  simp [State.writeSample]
@[simp] theorem State.writeSample_returned (c : Coord) (out : Sample) : (s.writeSample c out).returned = s.returned := by
  simp [State.writeSample]

/-! ### assertReset -/

@[simp] theorem State.assertReset_rom : (s.assertReset).rom = s.rom := by
  simp [State.assertReset]
@[simp] theorem State.assertReset_platform : (s.assertReset).platform = s.platform := by
  simp [State.assertReset]
@[simp] theorem State.assertReset_faults : (s.assertReset).faults = s.faults := by
  simp [State.assertReset]
@[simp] theorem State.assertReset_neighbours : (s.assertReset).neighbours = s.neighbours := by
  simp [State.assertReset]
@[simp] theorem State.assertReset_hostCached : (s.assertReset).hostCached = s.hostCached := by
  simp [State.assertReset]
@[simp] theorem State.assertReset_inbox : (s.assertReset).inbox = s.inbox := by
  simp [State.assertReset]
@[simp] theorem State.assertReset_reads : (s.assertReset).reads = s.reads := by
  simp [State.assertReset]
@[simp] theorem State.assertReset_returned : (s.assertReset).returned = s.returned := by
  simp [State.assertReset]

/-! ### cleanRange -/

@[simp] theorem State.cleanRange_regs (sp : Span) : (s.cleanRange sp).regs = s.regs := rfl
@[simp] theorem State.cleanRange_status (sp : Span) : (s.cleanRange sp).status = s.status := rfl
@[simp] theorem State.cleanRange_pending (sp : Span) : (s.cleanRange sp).pending = s.pending := rfl
@[simp] theorem State.cleanRange_mem (sp : Span) : (s.cleanRange sp).mem = s.mem := rfl
@[simp] theorem State.cleanRange_rom (sp : Span) : (s.cleanRange sp).rom = s.rom := rfl
@[simp] theorem State.cleanRange_platform (sp : Span) : (s.cleanRange sp).platform = s.platform := rfl
@[simp] theorem State.cleanRange_faults (sp : Span) : (s.cleanRange sp).faults = s.faults := rfl
@[simp] theorem State.cleanRange_neighbours (sp : Span) : (s.cleanRange sp).neighbours = s.neighbours := rfl
@[simp] theorem State.cleanRange_collided (sp : Span) : (s.cleanRange sp).collided = s.collided := rfl
@[simp] theorem State.cleanRange_unsynced (sp : Span) : (s.cleanRange sp).unsynced = s.unsynced := rfl
@[simp] theorem State.cleanRange_hostCached (sp : Span) : (s.cleanRange sp).hostCached = s.hostCached := rfl
@[simp] theorem State.cleanRange_inbox (sp : Span) : (s.cleanRange sp).inbox = s.inbox := rfl
@[simp] theorem State.cleanRange_reads (sp : Span) : (s.cleanRange sp).reads = s.reads := rfl
@[simp] theorem State.cleanRange_returned (sp : Span) : (s.cleanRange sp).returned = s.returned := rfl
@[simp] theorem State.cleanRange_draws (sp : Span) : (s.cleanRange sp).draws = s.draws := rfl

/-! ### invalidateRange -/

@[simp] theorem State.invalidateRange_regs (sp : Span) : (s.invalidateRange sp).regs = s.regs := rfl
@[simp] theorem State.invalidateRange_status (sp : Span) : (s.invalidateRange sp).status = s.status := rfl
@[simp] theorem State.invalidateRange_pending (sp : Span) : (s.invalidateRange sp).pending = s.pending := rfl
@[simp] theorem State.invalidateRange_mem (sp : Span) : (s.invalidateRange sp).mem = s.mem := rfl
@[simp] theorem State.invalidateRange_rom (sp : Span) : (s.invalidateRange sp).rom = s.rom := rfl
@[simp] theorem State.invalidateRange_platform (sp : Span) : (s.invalidateRange sp).platform = s.platform := rfl
@[simp] theorem State.invalidateRange_faults (sp : Span) : (s.invalidateRange sp).faults = s.faults := rfl
@[simp] theorem State.invalidateRange_neighbours (sp : Span) : (s.invalidateRange sp).neighbours = s.neighbours := rfl
@[simp] theorem State.invalidateRange_collided (sp : Span) : (s.invalidateRange sp).collided = s.collided := rfl
@[simp] theorem State.invalidateRange_unsynced (sp : Span) : (s.invalidateRange sp).unsynced = s.unsynced := rfl
@[simp] theorem State.invalidateRange_hostDirty (sp : Span) : (s.invalidateRange sp).hostDirty = s.hostDirty := rfl
@[simp] theorem State.invalidateRange_inbox (sp : Span) : (s.invalidateRange sp).inbox = s.inbox := rfl
@[simp] theorem State.invalidateRange_reads (sp : Span) : (s.invalidateRange sp).reads = s.reads := rfl
@[simp] theorem State.invalidateRange_returned (sp : Span) : (s.invalidateRange sp).returned = s.returned := rfl
@[simp] theorem State.invalidateRange_draws (sp : Span) : (s.invalidateRange sp).draws = s.draws := rfl

/-! ### addNeighbour -/

@[simp] theorem State.addNeighbour_regs (n : Neighbour) : (s.addNeighbour n).regs = s.regs := by
  simp [State.addNeighbour]
@[simp] theorem State.addNeighbour_status (n : Neighbour) : (s.addNeighbour n).status = s.status := by
  simp [State.addNeighbour]
@[simp] theorem State.addNeighbour_pending (n : Neighbour) : (s.addNeighbour n).pending = s.pending := by
  simp [State.addNeighbour]
@[simp] theorem State.addNeighbour_mem (n : Neighbour) : (s.addNeighbour n).mem = s.mem := by
  simp [State.addNeighbour]
@[simp] theorem State.addNeighbour_rom (n : Neighbour) : (s.addNeighbour n).rom = s.rom := by
  simp [State.addNeighbour]
@[simp] theorem State.addNeighbour_platform (n : Neighbour) : (s.addNeighbour n).platform = s.platform := by
  simp [State.addNeighbour]
@[simp] theorem State.addNeighbour_unsynced (n : Neighbour) : (s.addNeighbour n).unsynced = s.unsynced := by
  simp [State.addNeighbour]
@[simp] theorem State.addNeighbour_hostCached (n : Neighbour) : (s.addNeighbour n).hostCached = s.hostCached := by
  simp [State.addNeighbour]
@[simp] theorem State.addNeighbour_hostDirty (n : Neighbour) : (s.addNeighbour n).hostDirty = s.hostDirty := by
  simp [State.addNeighbour]
@[simp] theorem State.addNeighbour_inbox (n : Neighbour) : (s.addNeighbour n).inbox = s.inbox := by
  simp [State.addNeighbour]
@[simp] theorem State.addNeighbour_reads (n : Neighbour) : (s.addNeighbour n).reads = s.reads := by
  simp [State.addNeighbour]
@[simp] theorem State.addNeighbour_returned (n : Neighbour) : (s.addNeighbour n).returned = s.returned := by
  simp [State.addNeighbour]
@[simp] theorem State.addNeighbour_draws (n : Neighbour) : (s.addNeighbour n).draws = s.draws := by
  simp [State.addNeighbour]

/-! ### dropNeighbour -/

@[simp] theorem State.dropNeighbour_regs (k : Nat) : (s.dropNeighbour k).regs = s.regs := rfl
@[simp] theorem State.dropNeighbour_status (k : Nat) : (s.dropNeighbour k).status = s.status := rfl
@[simp] theorem State.dropNeighbour_pending (k : Nat) : (s.dropNeighbour k).pending = s.pending := rfl
@[simp] theorem State.dropNeighbour_mem (k : Nat) : (s.dropNeighbour k).mem = s.mem := rfl
@[simp] theorem State.dropNeighbour_rom (k : Nat) : (s.dropNeighbour k).rom = s.rom := rfl
@[simp] theorem State.dropNeighbour_platform (k : Nat) : (s.dropNeighbour k).platform = s.platform := rfl
@[simp] theorem State.dropNeighbour_faults (k : Nat) : (s.dropNeighbour k).faults = s.faults := rfl
@[simp] theorem State.dropNeighbour_collided (k : Nat) : (s.dropNeighbour k).collided = s.collided := rfl
@[simp] theorem State.dropNeighbour_unsynced (k : Nat) : (s.dropNeighbour k).unsynced = s.unsynced := rfl
@[simp] theorem State.dropNeighbour_hostCached (k : Nat) : (s.dropNeighbour k).hostCached = s.hostCached := rfl
@[simp] theorem State.dropNeighbour_hostDirty (k : Nat) : (s.dropNeighbour k).hostDirty = s.hostDirty := rfl
@[simp] theorem State.dropNeighbour_inbox (k : Nat) : (s.dropNeighbour k).inbox = s.inbox := rfl
@[simp] theorem State.dropNeighbour_reads (k : Nat) : (s.dropNeighbour k).reads = s.reads := rfl
@[simp] theorem State.dropNeighbour_returned (k : Nat) : (s.dropNeighbour k).returned = s.returned := rfl
@[simp] theorem State.dropNeighbour_draws (k : Nat) : (s.dropNeighbour k).draws = s.draws := rfl

/-! ### neighbourWrites -/

@[simp] theorem State.neighbourWrites_regs (k a : Nat) (b : Byte) : (s.neighbourWrites k a b).regs = s.regs := by
  unfold State.neighbourWrites; split
  · split <;> simp
  · rfl
@[simp] theorem State.neighbourWrites_status (k a : Nat) (b : Byte) : (s.neighbourWrites k a b).status = s.status := by
  unfold State.neighbourWrites; split
  · split <;> simp
  · rfl
@[simp] theorem State.neighbourWrites_pending (k a : Nat) (b : Byte) : (s.neighbourWrites k a b).pending = s.pending := by
  unfold State.neighbourWrites; split
  · split <;> simp
  · rfl
@[simp] theorem State.neighbourWrites_rom (k a : Nat) (b : Byte) : (s.neighbourWrites k a b).rom = s.rom := by
  unfold State.neighbourWrites; split
  · split <;> simp
  · rfl
@[simp] theorem State.neighbourWrites_platform (k a : Nat) (b : Byte) : (s.neighbourWrites k a b).platform = s.platform := by
  unfold State.neighbourWrites; split
  · split <;> simp
  · rfl
@[simp] theorem State.neighbourWrites_faults (k a : Nat) (b : Byte) : (s.neighbourWrites k a b).faults = s.faults := by
  unfold State.neighbourWrites; split
  · split <;> simp
  · rfl
@[simp] theorem State.neighbourWrites_neighbours (k a : Nat) (b : Byte) : (s.neighbourWrites k a b).neighbours = s.neighbours := by
  unfold State.neighbourWrites; split
  · split <;> simp
  · rfl
@[simp] theorem State.neighbourWrites_collided (k a : Nat) (b : Byte) : (s.neighbourWrites k a b).collided = s.collided := by
  unfold State.neighbourWrites; split
  · split <;> simp
  · rfl
@[simp] theorem State.neighbourWrites_unsynced (k a : Nat) (b : Byte) : (s.neighbourWrites k a b).unsynced = s.unsynced := by
  unfold State.neighbourWrites; split
  · split <;> simp
  · rfl
@[simp] theorem State.neighbourWrites_hostCached (k a : Nat) (b : Byte) : (s.neighbourWrites k a b).hostCached = s.hostCached := by
  unfold State.neighbourWrites; split
  · split <;> simp
  · rfl
@[simp] theorem State.neighbourWrites_hostDirty (k a : Nat) (b : Byte) : (s.neighbourWrites k a b).hostDirty = s.hostDirty := by
  unfold State.neighbourWrites; split
  · split <;> simp
  · rfl
@[simp] theorem State.neighbourWrites_inbox (k a : Nat) (b : Byte) : (s.neighbourWrites k a b).inbox = s.inbox := by
  unfold State.neighbourWrites; split
  · split <;> simp
  · rfl
@[simp] theorem State.neighbourWrites_reads (k a : Nat) (b : Byte) : (s.neighbourWrites k a b).reads = s.reads := by
  unfold State.neighbourWrites; split
  · split <;> simp
  · rfl
@[simp] theorem State.neighbourWrites_returned (k a : Nat) (b : Byte) : (s.neighbourWrites k a b).returned = s.returned := by
  unfold State.neighbourWrites; split
  · split <;> simp
  · rfl
@[simp] theorem State.neighbourWrites_draws (k a : Nat) (b : Byte) : (s.neighbourWrites k a b).draws = s.draws := by
  unfold State.neighbourWrites; split
  · split <;> simp
  · rfl

/-! ### What the updates write -/

@[simp] theorem State.setDone_status : (s.setDone).status = { s.status with done := true } := rfl
@[simp] theorem State.setDropped_status : (s.setDropped).status = { s.status with dropped := true } := rfl
@[simp] theorem State.writeStatus_status (w : Word) : (s.writeStatus w).status = s.status.write w := rfl
@[simp] theorem State.raiseErr_status (e : ErrCode) :
    (s.raiseErr e).status = { s.status with err := true, errCode := e } := rfl
@[simp] theorem State.setReturned_returned (v : Sample) : (s.setReturned v).returned = some v := rfl
@[simp] theorem State.tick_draws : (s.tick).draws = s.draws + drawsPerStep := rfl
@[simp] theorem State.recordRead_reads (v : Word) : (s.recordRead v).reads = s.reads ++ [v] := rfl
@[simp] theorem State.setInbox_inbox (l : List Event) : (s.setInbox l).inbox = l := rfl
@[simp] theorem State.popInbox_inbox : (s.popInbox).inbox = s.inbox.tail := rfl
@[simp] theorem State.accept_pending : (s.accept).pending = frameCoords s.width s.height := rfl
@[simp] theorem State.accept_faults : (s.accept).faults = (s.recordAcceptance).faults := rfl
@[simp] theorem State.assertReset_regs : (s.assertReset).regs = Regs.reset := rfl
@[simp] theorem State.assertReset_status : (s.assertReset).status = Status.reset := rfl
@[simp] theorem State.accept_collided : (s.accept).collided = s.neighbours.any s.collidesWith := rfl
@[simp] theorem State.assertReset_collided : (s.assertReset).collided = false := rfl
@[simp] theorem State.assertReset_pending : (s.assertReset).pending = [] := rfl
@[simp] theorem State.raiseMemFault_pending : (s.raiseMemFault).pending = [] := rfl
@[simp] theorem State.raiseMemFault_status :
    (s.raiseMemFault).status = { s.status with err := true, errCode := .memFault } := rfl
@[simp] theorem State.raiseMemFault_draws : (s.raiseMemFault).draws = s.draws + drawsPerStep := rfl
@[simp] theorem State.abort_pending (c : Coord) : (s.abort c).pending = [] := rfl
@[simp] theorem State.abort_status (c : Coord) :
    (s.abort c).status = { s.status with err := true, errCode := .memFault } := by
  simp [State.abort]
@[simp] theorem State.abortOnRead_pending : s.abortOnRead.pending = [] := rfl
@[simp] theorem State.abortOnRead_status :
    s.abortOnRead.status = { s.status with err := true, errCode := .memFault } := by
  simp [State.abortOnRead]
@[simp] theorem State.addNeighbour_neighbours (n : Neighbour) : (s.addNeighbour n).neighbours = s.neighbours ++ [n] := rfl
@[simp] theorem State.addNeighbour_collided (n : Neighbour) :
    (s.addNeighbour n).collided = (s.collided || s.meets n) := rfl
@[simp] theorem State.dropNeighbour_neighbours (k : Nat) :
    (s.dropNeighbour k).neighbours = s.neighbours.eraseIdx k := rfl

end Sys2Proof.Machine
end

