-- ==== Sys2Proof/Laws/Memory.lean ====
section
/-! SUPPORT. The laws of memory: a read after a write, and that every memory operation keeps the canonical form. -/

namespace Sys2Proof.Machine

theorem Memory.read_write_same (m : List Host.Cell) (a : Nat) (b : Byte) : Memory.read (Memory.write m a b) a = some b := by
  induction m with
  | nil => simp [Memory.write, Memory.read]
  | cons c m ih =>
    obtain ⟨k, v⟩ := c
    simp only [Memory.write]
    split
    · simp [Memory.read]
    · split
      · simp [Memory.read]
      · rename_i h1 h2
        simp only [Memory.read, ih]
        rw [if_neg (fun h => h2 h.symm)]

theorem Memory.read_write_other (m : List Host.Cell) (a a' : Nat) (b : Byte) (h : a' ≠ a) :
    Memory.read (Memory.write m a b) a' = Memory.read m a' := by
  induction m with
  | nil => simp [Memory.write, Memory.read, Ne.symm h]
  | cons c m ih =>
    obtain ⟨k, v⟩ := c
    simp only [Memory.write]
    split
    · simp [Memory.read, Ne.symm h]
    · split
      · rename_i h1 h2
        subst h2
        simp [Memory.read, Ne.symm h]
      · simp only [Memory.read, ih]

theorem Memory.rising_mono {lo lo' : Nat} (h : lo ≤ lo') {m : List Host.Cell} (hr : Memory.rising lo' m = true) :
    Memory.rising lo m = true := by
  cases m with
  | nil => rfl
  | cons c m =>
    obtain ⟨k, v⟩ := c
    simp only [Memory.rising, Bool.and_eq_true, decide_eq_true_eq] at *
    exact ⟨by omega, hr.2⟩

theorem Memory.rising_write {lo : Nat} {m : List Host.Cell} {a : Nat} (b : Byte) (hlo : lo ≤ a)
    (hr : Memory.rising lo m = true) : Memory.rising lo (Memory.write m a b) = true := by
  induction m generalizing lo with
  | nil => simp [Memory.write, Memory.rising, hlo]
  | cons c m ih =>
    obtain ⟨k, v⟩ := c
    simp only [Memory.rising, Bool.and_eq_true, decide_eq_true_eq] at hr
    simp only [Memory.write]
    split
    · rename_i h1
      simp only [Memory.rising, Bool.and_eq_true, decide_eq_true_eq]
      exact ⟨hlo, by omega, hr.2⟩
    · split
      · rename_i h1 h2
        subst h2
        simp only [Memory.rising, Bool.and_eq_true, decide_eq_true_eq]
        exact ⟨hlo, hr.2⟩
      · simp only [Memory.rising, Bool.and_eq_true, decide_eq_true_eq]
        exact ⟨hr.1, ih (by omega) hr.2⟩

theorem Memory.all_write {p : Host.Cell → Bool} {m : List Host.Cell} {a : Nat} {b : Byte} (hp : p (a, b) = true)
    (hm : m.all p = true) : (Memory.write m a b).all p = true := by
  induction m with
  | nil => simp [Memory.write, hp]
  | cons c m ih =>
    obtain ⟨k, v⟩ := c
    simp only [List.all_cons, Bool.and_eq_true] at hm
    simp only [Memory.write]
    split
    · simp [hp, hm.1, hm.2]
    · split
      · simp [hp, hm.2]
      · simp [hm.1, ih hm.2]

/-- A write keeps the canonical form. -/
theorem Memory.wf_write {m : List Host.Cell} {a : Nat} (b : Byte) (ha : a < 2 ^ 32) (h : Memory.wf m = true) :
    Memory.wf (Memory.write m a b) = true := by
  simp only [Memory.wf, Bool.and_eq_true] at *
  exact ⟨Memory.rising_write b (Nat.zero_le _) h.1, Memory.all_write (by simpa using ha) h.2⟩

/-- Reset's memory is in canonical form. -/
theorem Memory.wf_reset : Memory.wf State.reset.mem = true := rfl

/-- An address that ordinary memory answers lies in the data space. -/
theorem lt_of_kindOf_ram {p : Platform} {a : Nat} (h : Platform.kindOf p a = .ram) : a < 2 ^ 32 := by
  unfold Platform.kindOf at h
  split at h
  · simp at h
  · rename_i h1
    simpa [addressSpace] using h1

/-! ### One byte stored by an agent -/

theorem State.wf_engineStoreByte (s : State) (a : Nat) (b : Byte) (h : Memory.wf s.mem = true) :
    Memory.wf (s.engineStoreByte a b).mem = true := by
  unfold State.engineStoreByte
  split
  · rename_i hk
    exact Memory.wf_write b (lt_of_kindOf_ram hk) h
  · exact h

theorem State.wf_hostStoreByte (s : State) (a : Nat) (b : Byte) (h : Memory.wf s.mem = true) :
    Memory.wf (s.hostStoreByte a b).mem = true := by
  unfold State.hostStoreByte
  split
  · rename_i hk
    exact Memory.wf_write b (lt_of_kindOf_ram hk) h
  · exact h

theorem State.wf_neighbourStoreByte (s : State) (a : Nat) (b : Byte) (h : Memory.wf s.mem = true) :
    Memory.wf (s.neighbourStoreByte a b).mem = true := by
  unfold State.neighbourStoreByte
  split
  · rename_i hk
    exact Memory.wf_write b (lt_of_kindOf_ram hk) h
  · exact h

theorem State.wf_engineStore (s : State) (a n : Nat) (v : Sample) (h : Memory.wf s.mem = true) :
    Memory.wf (s.engineStore a n v).mem = true := by
  unfold State.engineStore
  split
  · exact s.wf_engineStoreByte _ _ h
  · exact State.wf_engineStoreByte _ _ _ (s.wf_engineStoreByte _ _ h)

theorem State.peek_engineStoreByte_same (s : State) (a : Nat) (b : Byte) (h : Platform.kindOf s.platform a = .ram) :
    (s.engineStoreByte a b).peek a = b := by
  unfold State.engineStoreByte State.peek
  rw [h]
  simp [Memory.read_write_same]

theorem State.peek_engineStoreByte_other (s : State) (a a' : Nat) (b : Byte) (h : a' ≠ a) :
    (s.engineStoreByte a b).peek a' = s.peek a' := by
  unfold State.engineStoreByte State.peek
  split
  · simp [Memory.read_write_other _ _ _ _ h]
  · rfl

theorem State.peek_hostStoreByte_same (s : State) (a : Nat) (b : Byte) (h : Platform.kindOf s.platform a = .ram) :
    (s.hostStoreByte a b).peek a = b := by
  unfold State.hostStoreByte State.peek
  rw [h]
  simp [Memory.read_write_same]

theorem State.peek_hostStoreByte_other (s : State) (a a' : Nat) (b : Byte) (h : a' ≠ a) :
    (s.hostStoreByte a b).peek a' = s.peek a' := by
  unfold State.hostStoreByte State.peek
  split
  · simp [Memory.read_write_other _ _ _ _ h]
  · rfl

/-- A container store changes no byte outside the container. -/
theorem State.peek_engineStore_other (s : State) (a n a' : Nat) (v : Sample) (hn : n = 1 ∨ n = 2)
    (h : ¬(a ≤ a' ∧ a' < a + n)) : (s.engineStore a n v).peek a' = s.peek a' := by
  unfold State.engineStore
  split
  · exact s.peek_engineStoreByte_other _ _ _ (by omega)
  · rw [State.peek_engineStoreByte_other _ _ _ _ (by omega), s.peek_engineStoreByte_other _ _ _ (by omega)]

/-- The bytes a container store leaves in ordinary memory (20_memory R63). -/
theorem State.peek_engineStore_low (s : State) (a n : Nat) (v : Sample) (h : Platform.kindOf s.platform a = .ram) :
    (s.engineStore a n v).peek a = v.extractLsb' 0 8 := by
  unfold State.engineStore
  split
  · exact s.peek_engineStoreByte_same _ _ h
  · rw [State.peek_engineStoreByte_other _ _ _ _ (by omega), s.peek_engineStoreByte_same _ _ h]

theorem State.peek_engineStore_high (s : State) (a n : Nat) (v : Sample) (hn : n ≠ 1)
    (h : Platform.kindOf s.platform (a + 1) = .ram) : (s.engineStore a n v).peek (a + 1) = v.extractLsb' 8 8 := by
  unfold State.engineStore
  rw [if_neg hn]
  exact State.peek_engineStoreByte_same _ _ _ (by simpa using h)

/-! ### Views -/

@[simp] theorem oldOrNew_nil (cur : Byte) (pick : Nat) : oldOrNew cur [] pick = cur := rfl

/-- An agent sees the current byte or an older one it may still see (20_memory R68). -/
theorem oldOrNew_mem (cur : Byte) (older : List Byte) (pick : Nat) : oldOrNew cur older pick ∈ cur :: older := by
  unfold oldOrNew
  split
  · simp
  · rename_i o os
    have hlt : pick % ((o :: os).length + 1) < (cur :: o :: os).length := by
      exact Nat.mod_lt pick (Nat.succ_pos _)
    rw [List.getD_eq_getElem?_getD, List.getElem?_eq_getElem hlt, Option.getD_some]
    exact List.getElem_mem hlt

@[simp] theorem olderBytes_nil (a : Nat) : olderBytes [] a = [] := rfl

theorem olderBytes_eq_nil {stale : List Host.Cell} {a : Nat} (h : ∀ c ∈ stale, c.1 ≠ a) : olderBytes stale a = [] := by
  simp only [olderBytes, List.filterMap_eq_nil_iff]
  intro c hc
  rw [if_neg (h c hc)]

/-- With no host write of the byte waiting to be cleaned, the engine reads what memory holds (20_memory R77). -/
theorem State.engineByte_clean (s : State) (slot a : Nat) (hd : ∀ c ∈ s.hostDirty, c.1 ≠ a)
    (h : Platform.kindOf s.platform a = .ram) : s.engineByte slot a = s.peek a := by
  unfold State.engineByte
  rw [h, olderBytes_eq_nil hd]
  rfl

/-- An engine write leaves no host write waiting that did not wait before (20_memory R77). -/
theorem State.mem_hostDirty_engineStoreByte {s : State} {a : Nat} {b : Byte} {c : Host.Cell}
    (h : c ∈ (s.engineStoreByte a b).hostDirty) : c ∈ s.hostDirty := by
  unfold State.engineStoreByte at h
  split at h
  · exact (List.mem_filter.mp h).1
  · exact h

theorem State.mem_hostDirty_engineStore {s : State} {a n : Nat} {v : Sample} {c : Host.Cell}
    (h : c ∈ (s.engineStore a n v).hostDirty) : c ∈ s.hostDirty := by
  unfold State.engineStore at h
  split at h
  · exact State.mem_hostDirty_engineStoreByte h
  · exact State.mem_hostDirty_engineStoreByte (State.mem_hostDirty_engineStoreByte h)

end Sys2Proof.Machine
end

