-- ==== Sys2Proof/Laws/Ops.lean ====
section
/-! SUPPORT. The laws of the shared operations: operands depend on the registers only, the frame's coordinates, recorded
faults, the choice of a pending coordinate, the end of a sample, and one inversion lemma each for a write access, a sample
step and an engine turn. -/

namespace Sys2Proof.Machine

variable {s t : State}

/-! ### Operands are functions of the registers -/

theorem State.srcDepth_congr (h : t.regs = s.regs) : t.srcDepth = s.srcDepth := by simp only [State.srcDepth, h]
theorem State.dstDepth_congr (h : t.regs = s.regs) : t.dstDepth = s.dstDepth := by simp only [State.dstDepth, h]
theorem State.width_congr (h : t.regs = s.regs) : t.width = s.width := by simp only [State.width, h]
theorem State.height_congr (h : t.regs = s.regs) : t.height = s.height := by simp only [State.height, h]
theorem State.dstBytes_congr (h : t.regs = s.regs) : t.dstBytes = s.dstBytes := by
  simp only [State.dstBytes, State.dstDepth_congr h]
theorem State.srcBytes_congr (h : t.regs = s.regs) : t.srcBytes = s.srcBytes := by
  simp only [State.srcBytes, State.srcDepth_congr h]
theorem State.srcBuffer_congr (h : t.regs = s.regs) : t.srcBuffer = s.srcBuffer := by
  simp only [State.srcBuffer, h, State.width_congr h, State.height_congr h, State.srcBytes_congr h]
theorem State.dstBuffer_congr (h : t.regs = s.regs) : t.dstBuffer = s.dstBuffer := by
  simp only [State.dstBuffer, h, State.width_congr h, State.height_congr h, State.dstBytes_congr h]
theorem State.srcAddr_congr (h : t.regs = s.regs) (c : Coord) : t.srcAddr c = s.srcAddr c := by
  simp only [State.srcAddr, State.srcBuffer_congr h]
theorem State.dstAddr_congr (h : t.regs = s.regs) (c : Coord) : t.dstAddr c = s.dstAddr c := by
  simp only [State.dstAddr, State.dstBuffer_congr h]
theorem State.layout_congr (h : t.regs = s.regs) : t.layout = s.layout := by
  simp only [State.layout, State.srcBuffer_congr h, State.dstBuffer_congr h]
theorem State.validate_congr (h : t.regs = s.regs) : t.validate = s.validate := by
  cases s; cases t; cases h; rfl
theorem State.collidesWith_congr (h : t.regs = s.regs) (n : Neighbour) : t.collidesWith n = s.collidesWith n := by
  simp only [State.collidesWith, State.srcBuffer_congr h, State.dstBuffer_congr h]
theorem State.buffersMeetDevice_congr (h : t.regs = s.regs) (hp : t.platform = s.platform) :
    t.buffersMeetDevice = s.buffersMeetDevice := by
  simp only [State.buffersMeetDevice, State.srcBuffer_congr h, State.dstBuffer_congr h, hp]
theorem State.busy_congr (h : t.pending = s.pending) : t.busy = s.busy := by simp only [State.busy, h]

theorem State.busy_iff (s : State) : s.busy = true ↔ s.pending ≠ [] := by
  simp [State.busy]

theorem sampleBytes_cases (d : Nat) : sampleBytes d = 1 ∨ sampleBytes d = 2 := by
  unfold sampleBytes
  split
  · exact .inl rfl
  · exact .inr rfl

/-- What a valid configuration gives (42_transform_command R142). -/
theorem State.validate_eq_none (h : s.validate = .none) : s.configError = false ∧ s.bufferError = false := by
  unfold State.validate at h
  split at h
  · simp at h
  · split at h
    · simp at h
    · simp_all

theorem State.configError_eq_false (s : State) : s.configError = false ↔
    1 ≤ s.dstDepth ∧ s.dstDepth ≤ s.srcDepth ∧ s.srcDepth ≤ 16 := by
  have hm : maxDepth = 16 := rfl
  have hr : s.reduction = (s.srcDepth : Int) - (s.dstDepth : Int) := rfl
  simp only [State.configError, depthIllegal, Bool.or_eq_false_iff, decide_eq_false_iff_not]
  constructor
  · rintro ⟨⟨⟨⟨h1, h2⟩, h3, h4⟩, h5⟩, h6⟩
    omega
  · rintro ⟨h1, h2, h3⟩
    refine ⟨⟨⟨⟨?_, ?_⟩, ?_, ?_⟩, ?_⟩, ?_⟩ <;> omega

theorem Buffer.pastEnd_eq_false (b : Buffer) :
    b.pastEnd = false ↔ b.base + (b.height - 1) * b.stride + b.width * b.bytes ≤ 2 ^ 32 := by
  simp only [Buffer.pastEnd, decide_eq_false_iff_not, Nat.not_lt]
  exact Iff.rfl

/-- What the buffer checks require (42_transform_command R142). -/
theorem State.bufferError_eq_false (s : State) : s.bufferError = false ↔
    s.regs.srcBase ≠ 0#32 ∧ s.regs.dstBase ≠ 0#32 ∧
    s.width * s.srcBytes ≤ s.regs.srcStride.toNat ∧ s.width * s.dstBytes ≤ s.regs.dstStride.toNat ∧
    (0 < s.width → 0 < s.height →
      s.regs.srcBase.toNat + (s.height - 1) * s.regs.srcStride.toNat + s.width * s.srcBytes ≤ 2 ^ 32 ∧
      s.regs.dstBase.toNat + (s.height - 1) * s.regs.dstStride.toNat + s.width * s.dstBytes ≤ 2 ^ 32) := by
  simp only [State.bufferError, Bool.or_eq_false_iff, decide_eq_false_iff_not, Bool.and_eq_false_iff,
    Buffer.pastEnd_eq_false, Nat.not_lt]
  constructor
  · rintro ⟨⟨⟨⟨h1, h2⟩, h3⟩, h4⟩, h5⟩
    refine ⟨h1, h2, h3, h4, fun hw hh => ?_⟩
    rcases h5 with (h5 | h5) | h5
    · omega
    · omega
    · exact h5
  · rintro ⟨h1, h2, h3, h4, h5⟩
    refine ⟨⟨⟨⟨h1, h2⟩, h3⟩, h4⟩, ?_⟩
    by_cases hw : 0 < s.width
    · by_cases hh : 0 < s.height
      · exact .inr (h5 hw hh)
      · exact .inl (.inr (by omega))
    · exact .inl (.inl (by omega))

/-! ### The frame's coordinates -/

theorem mem_frameCoords {w h : Nat} {c : Coord} : c ∈ frameCoords w h ↔ c.x < w ∧ c.y < h := by
  obtain ⟨x, y⟩ := c
  simp only [frameCoords, List.mem_flatMap, List.mem_map, List.mem_range, Coord.mk.injEq]
  constructor
  · rintro ⟨b, hb, a, ha, rfl, rfl⟩
    exact ⟨ha, hb⟩
  · rintro ⟨hx, hy⟩
    exact ⟨y, hy, x, hx, rfl, rfl⟩

theorem nodup_frameCoords (w h : Nat) : (frameCoords w h).Nodup := by
  rw [frameCoords, List.Nodup, List.pairwise_flatMap]
  refine ⟨fun y _ => ?_, ?_⟩
  · rw [List.pairwise_map]
    exact List.Pairwise.imp (fun hab h => hab (Coord.mk.inj h).1) List.nodup_range
  · refine List.Pairwise.imp (fun {a b} hab => ?_) List.nodup_range
    simp only [List.mem_map, List.mem_range]
    rintro _ ⟨_, _, rfl⟩ _ ⟨_, _, rfl⟩ h
    exact hab (Coord.mk.inj h).2

theorem length_frameCoords (w h : Nat) : (frameCoords w h).length = w * h := by
  simp [frameCoords, List.length_flatMap, List.map_const', Nat.mul_comm]

/-! ### Recorded faults -/

theorem State.mem_recordFault (s : State) (f : Fault) : f ∈ (s.recordFault f).faults := by
  simp only [State.recordFault]
  split
  · simpa using ‹s.faults.contains f = true›
  · simp

theorem State.mem_recordFault_of_mem (f : Fault) {g : Fault} (h : g ∈ s.faults) : g ∈ (s.recordFault f).faults := by
  simp only [State.recordFault]
  split
  · exact h
  · exact List.mem_append_left _ h

theorem State.mem_recordIf_of_mem (c : Bool) (f : Fault) {g : Fault} (h : g ∈ s.faults) : g ∈ (s.recordIf c f).faults := by
  unfold State.recordIf
  split
  · exact State.mem_recordFault_of_mem f h
  · exact h

theorem State.mem_recordIf (s : State) {c : Bool} (f : Fault) (h : c = true) : f ∈ (s.recordIf c f).faults := by
  unfold State.recordIf
  rw [if_pos h]
  exact s.mem_recordFault f

theorem State.recordIf_false (s : State) (f : Fault) : s.recordIf false f = s := rfl

theorem State.mem_recordAcceptance_of_mem {g : Fault} (h : g ∈ s.faults) : g ∈ (s.recordAcceptance).faults :=
  State.mem_recordIf_of_mem _ _ (State.mem_recordIf_of_mem _ _ (State.mem_recordIf_of_mem _ _ h))

/-! ### The choice of a pending coordinate -/

theorem pickCoord_mem (k : Nat) (c : Coord) (cs : List Coord) : pickCoord k c cs ∈ c :: cs := by
  unfold pickCoord
  split
  · simp
  · rename_i d ds
    have hlt : k % ((d :: ds).length + 1) < (c :: d :: ds).length := by
      exact Nat.mod_lt k (Nat.succ_pos _)
    rw [List.getD_eq_getElem?_getD, List.getElem?_eq_getElem hlt, Option.getD_some]
    exact List.getElem_mem hlt

/-! ### The end of a sample -/

/-- A finished sample leaves PENDING (42_transform_command R149). -/
theorem State.finishSample_pending (s : State) (c : Coord) :
    (s.finishSample c).pending = s.pending.filter fun d => d != c := by
  unfold State.finishSample
  split <;> rename_i h <;> exact h.symm

/-- The last sample sets DONE in the same step, no other sample touches STATUS (42_transform_command R150). -/
theorem State.finishSample_status (s : State) (c : Coord) :
    (s.finishSample c).status = if (s.pending.filter fun d => d != c) = [] then { s.status with done := true } else s.status := by
  unfold State.finishSample
  split <;> rename_i h <;> rw [h] <;> simp

@[simp] theorem State.writeSample_pending (s : State) (c : Coord) (out : Sample) :
    (s.writeSample c out).pending = s.pending.filter fun d => d != c := by
  simp [State.writeSample, State.finishSample_pending]

theorem State.writeSample_status (s : State) (c : Coord) (out : Sample) :
    (s.writeSample c out).status = if (s.pending.filter fun d => d != c) = [] then { s.status with done := true } else s.status := by
  simp [State.writeSample, State.finishSample_status]

theorem State.writeSample_peek (s : State) (c : Coord) (out : Sample) (a : Nat) :
    (s.writeSample c out).peek a
      = (s.engineStore (s.dstAddr c) s.dstBytes (if s.contended then s.freeSample else out)).peek a := by
  simp [State.writeSample, State.peek]

theorem State.abort_peek (s : State) (c : Coord) (a : Nat) :
    (s.abort c).peek a = (s.engineStore (s.dstAddr c) s.dstBytes s.freeSample).peek a := rfl

theorem State.mem_inFlight (s : State) (d : Coord) : d ∈ s.inFlight ↔ d ∈ s.pending ∧ s.readErrs d = false := by
  simp [State.inFlight]

/-- What a command that ends with samples under way leaves: memory as it was, or one container in flight freed, never one
whose read cannot have been done (20_memory R72). -/
theorem State.scrambleInFlight_cases (s : State) :
    s.scrambleInFlight = s ∨ ∃ d ∈ s.pending, s.readErrs d = false ∧ s.scrambleInFlight = s.scramble d := by
  unfold State.scrambleInFlight
  split
  · exact .inl rfl
  · rename_i d ds hp
    have hm := pickCoord_mem (Config.freeIndex (s.draws + 4)) d ds
    rw [← hp, State.mem_inFlight] at hm
    exact .inr ⟨_, hm.1, hm.2, rfl⟩

/-- So does a read abort, which leaves the container of its own coordinate alone (42_transform_command R152). -/
theorem State.abortOnRead_cases (s : State) :
    s.abortOnRead = s.raiseMemFault ∨ ∃ d ∈ s.pending, s.readErrs d = false ∧ s.abortOnRead = s.abort d := by
  rcases s.scrambleInFlight_cases with h | ⟨d, hd, hr, h⟩
  · exact .inl (by rw [State.abortOnRead, h])
  · exact .inr ⟨d, hd, hr, by rw [State.abortOnRead, h, State.abort]⟩

/-! ### What a sample step and an engine turn can do -/

/-- Everything a sample's write access that answers a next state can do: a sample written, or an abort. -/
theorem writeAccess_next_cases {c : Coord} {out : Sample} (h : writeAccess c out s = .next t) :
    (s.accessErrs true (s.dstAddr c) s.dstBytes = true ∧ t = s.abort c) ∨
    (s.accessErrs true (s.dstAddr c) s.dstBytes = false ∧ s.accessFault (s.dstAddr c) s.dstBytes = none ∧
      t = s.writeSample c out) := by
  unfold writeAccess at h
  split at h
  · rename_i hw
    exact .inl ⟨hw, by simpa using h.symm⟩
  · rename_i hw
    split at h
    · simp at h
    · rename_i hf
      exact .inr ⟨by simpa using hw, hf, by simpa using h.symm⟩

/-- Everything a sample step that answers a next state can do: an abort on its read, or its write access. -/
theorem sampleStep_next_cases {c : Coord} (h : sampleStep c s = .next t) :
    (s.readErrs c = true ∧ t = s.abortOnRead) ∨
    (s.readErrs c = false ∧
      ((∃ out, s.quantizeSample c (s.engineLoad (s.srcAddr c) s.srcBytes) = .ok out ∧ writeAccess c out s = .next t) ∨
       (∃ f, s.quantizeSample c (s.engineLoad (s.srcAddr c) s.srcBytes) = .error f ∧
        writeAccess c s.freeSample (s.recordFault f) = .next t))) := by
  unfold sampleStep at h
  split at h
  · rename_i he
    exact .inl ⟨he, by simpa using h.symm⟩
  · rename_i he
    split at h
    · simp at h
    · refine .inr ⟨by simpa using he, ?_⟩
      split at h
      · rename_i f hq
        exact .inr ⟨f, hq, h⟩
      · rename_i out hq
        exact .inl ⟨out, hq, h⟩

/-- Everything an engine turn that answers a next state can do: nothing when idle, an abort, a sample written, or, where
the request is one the engine never makes, its fault recorded first. -/
theorem engineTurn_next_cases {choice : Option Nat} (h : engineTurn choice s = .next t) :
    (s.pending = [] ∧ t = s) ∨
    (∃ c ∈ s.pending, t = s.abort c) ∨
    (s.pending ≠ [] ∧ t = s.raiseMemFault) ∨
    (∃ c ∈ s.pending, ∃ out, s.quantizeSample c (s.engineLoad (s.srcAddr c) s.srcBytes) = .ok out ∧
      t = s.writeSample c out) ∨
    (∃ c ∈ s.pending, ∃ f, s.quantizeSample c (s.engineLoad (s.srcAddr c) s.srcBytes) = .error f ∧
      (t = (s.recordFault f).abort c ∨ t = (s.recordFault f).writeSample c s.freeSample)) := by
  unfold engineTurn at h
  split at h
  · rename_i hp
    exact .inl ⟨hp, by simpa using h.symm⟩
  · rename_i c cs hp
    have hmem : pickCoord (choice.getD (Config.freeIndex (s.draws + 5))) c cs ∈ s.pending := hp ▸ pickCoord_mem _ c cs
    right
    rcases sampleStep_next_cases h with ⟨-, rfl⟩ | ⟨-, ⟨out, hq, hw⟩ | ⟨f, hq, hw⟩⟩
    · rcases s.abortOnRead_cases with he | ⟨d, hd, -, he⟩
      · exact .inr (.inl ⟨by simp [hp], he⟩)
      · exact .inl ⟨d, hd, he⟩
    · rcases writeAccess_next_cases hw with ⟨-, rfl⟩ | ⟨-, -, rfl⟩
      · exact .inl ⟨_, hmem, rfl⟩
      · exact .inr (.inr (.inl ⟨_, hmem, out, hq, rfl⟩))
    · refine .inr (.inr (.inr ⟨_, hmem, f, hq, ?_⟩))
      rcases writeAccess_next_cases hw with ⟨-, rfl⟩ | ⟨-, -, rfl⟩
      · exact .inl rfl
      · exact .inr rfl

end Sys2Proof.Machine
end

