-- ==== Sys2Proof/Laws/Units.lean ====
section
/-! SUPPORT. The laws of the sub-blocks: what each lookup and the quantizer can answer (40_lookup_units, 41_quantizer), and
the constraints of the tables read along a row. -/

namespace Sys2Proof.Machine

/-- SCALE_LOOKUP answers its entry at every row that exists (40_lookup_units R104). -/
theorem scaleLookup_of_ne (m : Rom) (r l : BitVec 4) (h : r ≠ 0#4) : scaleLookup m r l = .ok (Rom.scaleAt m r l h) := by
  unfold scaleLookup
  rw [dif_neg h]

/-- Row 0 is reserved (40_lookup_units R104). -/
theorem scaleLookup_zero (m : Rom) (l : BitVec 4) : scaleLookup m 0#4 l = .error .scaleRowZero := rfl

theorem quantLegal_iff (t : BitVec 5) (r : BitVec 4) :
    quantLegal t r = true ↔ 1 ≤ t.toNat ∧ t.toNat + r.toNat ≤ 16 := by
  have hm : maxDepth = 16 := rfl
  simp only [quantLegal, Bool.and_eq_true, decide_eq_true_eq]
  omega

/-- A request outside its conditions answers the fault `bad_quant_request` (30_encoding R87). -/
theorem quantize_illegal (m : Rom) (t : BitVec 5) (r : BitVec 4) (y x : BitVec 3) (v : Sample) (h : quantLegal t r = false) :
    quantize m t r y x v = .error .badQuantRequest := by
  unfold quantize
  rw [h]
  rfl

/-- Pass-through (41_quantizer R121). -/
theorem quantize_zero (m : Rom) (t : BitVec 5) (y x : BitVec 3) (v : Sample) (h : quantLegal t 0#4 = true) :
    quantize m t 0#4 y x v = .ok v := by
  unfold quantize
  rw [if_pos h]
  rfl

/-- The quantizing path (41_quantizer R122, R123, R124). -/
theorem quantize_pos (m : Rom) (t : BitVec 5) (r : BitVec 4) (y x : BitVec 3) (v : Sample) (h : quantLegal t r = true)
    (hr : r ≠ 0#4) : quantize m t r y x v =
      .ok (addShiftClamp v (Rom.scaleAt m r (Rom.levelAt m (Rom.patternAt m y x)) hr) r.toNat t.toNat) := by
  unfold quantize patternLookup
  rw [if_pos h, if_neg hr, scaleLookup_of_ne _ _ _ hr]

/-- A legal request is answered: QUANTIZE cannot fail (41_quantizer R120). -/
theorem quantize_legal_ok (m : Rom) (t : BitVec 5) (r : BitVec 4) (y x : BitVec 3) (v : Sample)
    (h : quantLegal t r = true) : ∃ out, quantize m t r y x v = .ok out := by
  by_cases hr : r = 0#4
  · subst hr
    exact ⟨v, quantize_zero m t y x v h⟩
  · exact ⟨_, quantize_pos m t r y x v h hr⟩

/-- The clamped value fits 16 bits, so narrowing loses nothing (41_quantizer R125). -/
theorem addShiftClamp_toNat (v bias : Sample) (r t : Nat) (ht : t ≤ 16) :
    (addShiftClamp v bias r t).toNat = min ((v.toNat + bias.toNat) >>> r) (2 ^ t - 1) := by
  have h1 : 2 ^ t ≤ 2 ^ 16 := Nat.pow_le_pow_right (by decide) ht
  have h2 : 0 < 2 ^ t := Nat.two_pow_pos t
  simp only [addShiftClamp, depthMax, BitVec.toNat_ofNat]
  exact Nat.mod_eq_of_lt (by omega)

end Sys2Proof.Machine
end

