-- ==== Sys2Proof/Laws/Geometry.lean ====
section
/-! SUPPORT. The laws of buffers: membership and intersection of byte sets (42_transform_command R147, R148), and that two
containers of one buffer whose stride holds a row share no byte. -/

namespace Sys2Proof.Machine

theorem rangesMeet_iff (p m q n : Nat) :
    rangesMeet p m q n = true ↔ ∃ a, (p ≤ a ∧ a < p + m) ∧ (q ≤ a ∧ a < q + n) := by
  simp only [rangesMeet, decide_eq_true_eq]
  constructor
  · intro h
    exact ⟨max p q, by omega⟩
  · rintro ⟨a, h⟩
    omega

theorem Buffer.contains_iff_row (b : Buffer) (a : Nat) :
    b.contains a = true ↔ ∃ y, y < b.height ∧ b.rowBase y ≤ a ∧ a < b.rowBase y + b.rowBytes := by
  simp [Buffer.contains]

theorem Buffer.overlaps_iff (b c : Buffer) : b.overlaps c = true ↔ ∃ a, b.contains a = true ∧ c.contains a = true := by
  simp only [Buffer.overlaps, List.any_eq_true, List.mem_range, rangesMeet_iff, Buffer.contains_iff_row]
  constructor
  · rintro ⟨y, hy, z, hz, a, h1, h2⟩
    exact ⟨a, ⟨y, hy, h1⟩, ⟨z, hz, h2⟩⟩
  · rintro ⟨a, ⟨y, hy, h1⟩, ⟨z, hz, h2⟩⟩
    exact ⟨y, hy, z, hz, a, h1, h2⟩

theorem Buffer.meetsSpan_of_contains (b : Buffer) (sp : Span) (a : Nat) (hb : b.contains a = true)
    (hs : spanContains sp a = true) : b.meetsSpan sp = true := by
  simp only [spanContains, Bool.and_eq_true, decide_eq_true_eq] at hs
  obtain ⟨y, hy, h3, h4⟩ := (b.contains_iff_row a).mp hb
  simp only [Buffer.meetsSpan, List.any_eq_true, List.mem_range, rangesMeet_iff]
  exact ⟨y, hy, a, ⟨h3, h4⟩, hs⟩

/-- A container of the frame lies in its row. -/
theorem Buffer.contains_of_addr (b : Buffer) {c : Coord} (hx : c.x < b.width) (hy : c.y < b.height) {a : Nat}
    (h : b.addr c ≤ a ∧ a < b.addr c + b.bytes) : b.contains a = true := by
  rw [Buffer.contains_iff_row]
  have e : (c.x + 1) * b.bytes ≤ b.width * b.bytes := Nat.mul_le_mul_right _ hx
  rw [Nat.add_mul] at e
  simp only [Buffer.addr] at h
  exact ⟨c.y, hy, by simp only [Buffer.rowBase]; omega, by simp only [Buffer.rowBase, Buffer.rowBytes]; omega⟩

/-- Two containers of a buffer whose stride holds a row share no byte. -/
theorem Buffer.containers_disjoint (b : Buffer) (hs : b.width * b.bytes ≤ b.stride) {c d : Coord} (hc : c.x < b.width)
    (hd : d.x < b.width) (h : c ≠ d) (a : Nat) (h1 : b.addr c ≤ a ∧ a < b.addr c + b.bytes)
    (h2 : b.addr d ≤ a ∧ a < b.addr d + b.bytes) : False := by
  simp only [Buffer.addr] at h1 h2
  have e1 : (c.x + 1) * b.bytes ≤ b.width * b.bytes := Nat.mul_le_mul_right _ hc
  have e2 : (d.x + 1) * b.bytes ≤ b.width * b.bytes := Nat.mul_le_mul_right _ hd
  rw [Nat.add_mul] at e1 e2
  have hy : c.y = d.y := by
    rcases Nat.lt_trichotomy c.y d.y with hl | hl | hl
    · have := Nat.mul_le_mul_right b.stride (show c.y + 1 ≤ d.y from hl)
      rw [Nat.add_mul] at this
      omega
    · exact hl
    · have := Nat.mul_le_mul_right b.stride (show d.y + 1 ≤ c.y from hl)
      rw [Nat.add_mul] at this
      omega
  have hx : c.x = d.x := by
    rw [hy] at h1
    rcases Nat.lt_trichotomy c.x d.x with hl | hl | hl
    · have := Nat.mul_le_mul_right b.bytes (show c.x + 1 ≤ d.x from hl)
      rw [Nat.add_mul] at this
      omega
    · exact hl
    · have := Nat.mul_le_mul_right b.bytes (show d.x + 1 ≤ c.x from hl)
      rw [Nat.add_mul] at this
      omega
  exact h (by cases c; cases d; simp_all)

end Sys2Proof.Machine
end

