-- ==== Sys2Proof/Laws/PerInstr.lean ====
section
/-! SUPPORT. The per-instruction family WellFormedFields: what well-formedness says of each operation's fields (30_encoding
R84, R85). -/

namespace Sys2Proof.Laws.WellFormedFields

/-- A well-formed operation's fields meet the constraints of its row of the opcode table. -/
def Statement (i : Sys2Proof.Instr) : Prop :=
  i.wellFormed = true ↔
    match i with
    | .transform => True
    | .patternLookup _ _ => True
    | .scaleLookup r _ => 1 ≤ r.toNat
    | .quantize t r _ _ _ => 1 ≤ t.toNat ∧ t.toNat ≤ 16 ∧ t.toNat + r.toNat ≤ 16

theorem transform : Statement .transform := by
  simp [Statement, Instr.wellFormed]

theorem patternLookup (y x : BitVec 3) : Statement (.patternLookup y x) := by
  simp [Statement, Instr.wellFormed]

theorem scaleLookup (r l : BitVec 4) : Statement (.scaleLookup r l) := by
  have h : r = 0#4 ↔ r.toNat = 0 := ⟨fun h => by simp [h], fun h => BitVec.eq_of_toNat_eq (by simpa using h)⟩
  simp only [Statement, Instr.wellFormed, scaleRowLegal, bne_iff_ne, ne_eq, BitVec.ofNat_eq_ofNat, h]
  omega

theorem quantize (t : BitVec 5) (r : BitVec 4) (y x : BitVec 3) (v : Sample) : Statement (.quantize t r y x v) := by
  simp only [Statement, Instr.wellFormed, quantFieldsLegal, Bool.and_eq_true, decide_eq_true_eq, and_assoc]

end Sys2Proof.Laws.WellFormedFields
end

