-- ==== Sys2Proof/Laws/Sequencer.lean ====
section
/-! SUPPORT. The laws of a sample step on a valid configuration: the request it makes is legal, what its read sees and its
write leaves in ordinary memory, and that a valid step in ordinary memory writes its sample. -/

namespace Sys2Proof.Machine

variable {s : State}

theorem State.valid_depths (hv : s.validate = .none) : 1 ≤ s.dstDepth ∧ s.dstDepth ≤ s.srcDepth ∧ s.srcDepth ≤ 16 :=
  (State.configError_eq_false s).mp (State.validate_eq_none hv).1

/-- The fields of the requests a valid command makes (30_encoding R82, R85). -/
theorem State.request_fields (hv : s.validate = .none) :
    s.targetField.toNat = s.dstDepth ∧ s.reductionField.toNat = s.srcDepth - s.dstDepth := by
  obtain ⟨h1, h2, h3⟩ := State.valid_depths hv
  refine ⟨rfl, ?_⟩
  simp only [State.reductionField, BitVec.toNat_ofNat]
  exact Nat.mod_eq_of_lt (by omega)

theorem State.quantizeSample_eq (hv : s.validate = .none) (c : Coord) (v : Sample) :
    s.quantizeSample c v = quantize s.rom s.targetField s.reductionField (tileField c.y) (tileField c.x) v := by
  obtain ⟨h1, h2, h3⟩ := State.valid_depths hv
  have hm : maxDepth = 16 := rfl
  unfold State.quantizeSample
  rw [if_neg (by omega)]

/-- A valid command's request is answered (40_lookup_units R105). -/
theorem State.quantizeSample_ok (hv : s.validate = .none) (c : Coord) (v : Sample) :
    ∃ out, s.quantizeSample c v = .ok out := by
  rw [State.quantizeSample_eq hv]
  apply quantize_legal_ok
  rw [quantLegal_iff, (State.request_fields hv).1, (State.request_fields hv).2]
  obtain ⟨h1, h2, h3⟩ := State.valid_depths hv
  omega

theorem State.ordinary_access {w : Bool} {a n : Nat} (h : s.ordinary w a n) :
    s.accessErrs w a n = false ∧ s.accessFault a n = none := by
  constructor
  · simp only [State.accessErrs, byteAddrs, List.any_map, List.any_eq_false, List.mem_range]
    intro k hk
    simp [(h k hk).2]
  · have h1 : s.accessOutside a n = false := by
      simp only [State.accessOutside, byteAddrs, List.any_map, List.any_eq_false, List.mem_range]
      intro k hk
      simp [(h k hk).1]
    have h2 : s.accessHitsDevice a n = false := by
      simp only [State.accessHitsDevice, byteAddrs, List.any_map, List.any_eq_false, List.mem_range]
      intro k hk
      simp [(h k hk).1]
    simp [State.accessFault, h1, h2]

/-- A read of ordinary memory with no host write of its bytes waiting sees the container (20_memory R63, R64). -/
theorem State.engineLoad_eq {a n : Nat} (hn : n = 1 ∨ n = 2) (hd : s.hostClean a n)
    (h : ∀ k, k < n → Platform.kindOf s.platform (a + k) = .ram) :
    s.engineLoad a n = BitVec.ofNat 16 (s.container a n) := by
  apply BitVec.eq_of_toNat_eq
  rcases hn with rfl | rfl
  · have := h 0 (by omega)
    simp only [State.engineLoad, State.container, if_true, State.engineByte_clean s 0 a (fun c hc he => hd c hc (by omega)) this]
    simp
  · have h0 := h 0 (by omega)
    have h1 := h 1 (by omega)
    simp only [State.engineLoad, State.container, OfNat.ofNat_ne_one, if_false,
      State.engineByte_clean s 0 a (fun c hc he => hd c hc (by omega)) h0,
      State.engineByte_clean s 1 (a + 1) (fun c hc he => hd c hc (by omega)) h1, BitVec.toNat_append, BitVec.toNat_ofNat]
    have := (s.peek a).isLt
    have := (s.peek (a + 1)).isLt
    rw [Nat.mod_eq_of_lt (by omega), ← Nat.shiftLeft_add_eq_or_of_lt (by omega), Nat.shiftLeft_eq]
    omega

/-- A write to ordinary memory leaves its value in the container (20_memory R63, R65). -/
theorem State.container_engineStore {a n : Nat} {v : Sample} (hn : n = 1 ∨ n = 2)
    (h : ∀ k, k < n → Platform.kindOf s.platform (a + k) = .ram) (hv : n = 1 → v.toNat < 256) :
    (s.engineStore a n v).container a n = v.toNat := by
  have h0 := h 0 (by omega)
  have hlt := v.isLt
  rcases hn with rfl | rfl
  · simp only [State.container, if_true, State.peek_engineStore_low s a 1 v h0]
    have := hv rfl
    simp
    omega
  · have h1 := h 1 (by omega)
    simp only [State.container, OfNat.ofNat_ne_one, if_false, State.peek_engineStore_low s a 2 v h0,
      State.peek_engineStore_high s a 2 v (by decide) h1]
    simp [BitVec.extractLsb'_toNat, Nat.shiftRight_eq_div_pow]
    omega

theorem State.engineLoad_one_lt (s : State) (a : Nat) : (s.engineLoad a 1).toNat < 256 := by
  simp only [State.engineLoad, if_true]
  have := (s.engineByte 0 a).isLt
  simp
  omega

/-- The result always fits its container (41_quantizer R125). -/
theorem State.quantizeSample_fits (hv : s.validate = .none) {c : Coord} {v out : Sample}
    (hq : s.quantizeSample c v = .ok out) (hsmall : s.srcBytes = 1 → v.toNat < 256) (hb : s.dstBytes = 1) :
    out.toNat < 256 := by
  rw [State.quantizeSample_eq hv] at hq
  obtain ⟨h1, h2, h3⟩ := State.valid_depths hv
  obtain ⟨f1, f2⟩ := State.request_fields hv
  have hd : s.dstDepth ≤ 8 := by
    simp only [State.dstBytes, sampleBytes] at hb
    split at hb
    · assumption
    · omega
  by_cases hr : s.reductionField = 0#4
  · rw [hr] at hq f2
    have hl : quantLegal s.targetField 0#4 = true := by
      rw [quantLegal_iff, f1]
      simp
      omega
    rw [quantize_zero _ _ _ _ _ hl] at hq
    cases hq
    apply hsmall
    simp only [State.srcBytes, sampleBytes]
    simp at f2
    rw [if_pos]
    omega
  · have hl : quantLegal s.targetField s.reductionField = true := by
      rw [quantLegal_iff, f1, f2]
      omega
    rw [quantize_pos _ _ _ _ _ _ hl hr] at hq
    cases hq
    rw [addShiftClamp_toNat _ _ _ _ (by omega), f1]
    have : 2 ^ s.dstDepth ≤ 2 ^ 8 := Nat.pow_le_pow_right (by decide) hd
    have : 0 < 2 ^ s.dstDepth := Nat.two_pow_pos _
    omega

/-- A valid sample step in ordinary memory writes its sample. -/
theorem sampleStep_ordinary {c : Coord} (hv : s.validate = .none) (h1 : s.ordinary false (s.srcAddr c) s.srcBytes)
    (h2 : s.ordinary true (s.dstAddr c) s.dstBytes) :
    ∃ out, s.quantizeSample c (s.engineLoad (s.srcAddr c) s.srcBytes) = .ok out ∧
      sampleStep c s = .next (s.writeSample c out) := by
  obtain ⟨out, ho⟩ := State.quantizeSample_ok hv c (s.engineLoad (s.srcAddr c) s.srcBytes)
  refine ⟨out, ho, ?_⟩
  simp [sampleStep, writeAccess, State.readErrs, (State.ordinary_access h1).1, (State.ordinary_access h1).2, (State.ordinary_access h2).1,
    (State.ordinary_access h2).2, ho]

/-- In a state that meets the invariant a pending coordinate is one of the frame, and the command is valid. -/
theorem State.Inv.pending_facts (h : s.Inv) {c : Coord} (hc : c ∈ s.pending) :
    (c.x < s.width ∧ c.y < s.height) ∧ s.validate = .none :=
  ⟨mem_frameCoords.mp (h.pending.subset hc), h.busyValid (by
    rw [State.busy_iff]
    rintro h0
    simp [h0] at hc)⟩

end Sys2Proof.Machine
end

