-- ==== Sys2Proof/Laws/Step.lean ====
section
/-! SUPPORT. Everything a step can do: one inversion lemma for the events of the host port, from which each whole-machine
rule is a case analysis. -/

namespace Sys2Proof.Machine

variable {s t : State}

/-- With no event left a step is an engine turn. -/
theorem step_nil (h : s.inbox = []) : step s = engineTurn none s := by
  simp only [step, advance, h]

/-- Otherwise it is what the next event does. -/
theorem step_cons {e : Event} {rest : List Event} (h : s.inbox = e :: rest) : step s = handle e (s.setInbox rest) := by
  simp only [step, advance, h]

/-- A CMD word: TRANSFORM or an illegal command (30_encoding R80, R87). -/
theorem runRequest_cmd32 (w : Word) (s : State) :
    runRequest (.cmd32 w) s = if w = transformWord then execTransform s else illegalCommand s := by
  by_cases hw : w = transformWord
  · simp [runRequest, decode, decodeCmd32, hw, exec]
  · simp [runRequest, decode, decodeCmd32, hw]

/-- A host write of a register by name (10_state R23, R25, R35). -/
theorem handle_wr (r : Reg) (w : Word) (s : State) : handle (wr r w) s =
    if r = .cmd then runRequest (.cmd32 w) s
    else if r = .status then .next (s.writeStatus w)
    else .next (s.writeConfig r w) := by
  cases r <;> rfl

/-- A host read of a register by name (10_state R36). -/
theorem handle_rd (r : Reg) (s : State) :
    handle (rd r) s = .next ((s.afterRead r.offset).recordRead (s.readReg r)) := by
  cases r <;> rfl

/-- Everything a 32-bit host write at an aligned offset can make of a state, an issued command included (10_state R25, R35;
42_transform_command R140). -/
inductive WriteEffect (s : State) : State → Prop where
  | same : WriteEffect s s
  | dropped (hb : s.busy = true) : WriteEffect s s.setDropped
  | rejected (e : ErrCode) (hb : s.busy = false) (he : e ≠ .none) : WriteEffect s (s.raiseErr e)
  | emptyFrame (hb : s.busy = false) (hv : s.validate = .none) : WriteEffect s s.setDone
  | accepted (hb : s.busy = false) (hv : s.validate = .none) (hw : 0 < s.width) (hh : 0 < s.height) :
      WriteEffect s s.accept
  | statusWritten (w : Word) : WriteEffect s (s.writeStatus w)
  | configWritten (r : Reg) (w : Word) (hb : s.busy = false) : WriteEffect s { s with regs := s.regs.write r w }

/-- Everything that an event other than the reset input can make of a state when it answers a next one. -/
inductive Effect (s : State) : State → Prop where
  | written {u : State} (h : WriteEffect s u) : Effect s u
  | unsupportedWrite (race : Bool) : Effect s
      (((s.recordIf race .hostWriteToBusyBuffer).recordFault .unsupportedRegisterAccess).freeWrites 8).tick
  | unsupportedRead (v : Word) : Effect s ((s.recordFault .unsupportedRegisterAccess).recordRead v).tick
  | unsupportedPoll (l : List Event) : Effect s ((s.recordFault .unsupportedRegisterAccess).setInbox l).tick
  | returned (v : Sample) : Effect s (s.setReturned v)
  | illegalRequest (f : Fault) (v : Sample) : Effect s ((s.recordFault f).setReturned v).tick
  | read (off : BitVec 8) (v : Word) : Effect s ((s.afterRead off).recordRead v)
  | pollAgain (off : BitVec 8) (l : List Event) : Effect s ((s.afterRead off).setInbox l)
  | racingWrite (a : Nat) (b : Byte) (hr : s.inBusyBuffer a = true) :
      Effect s ((s.recordFault .hostWriteToBusyBuffer).hostStoreByte a b).tick
  | hostWrite (a : Nat) (b : Byte) (hr : s.inBusyBuffer a = false) : Effect s (s.hostStoreByte a b)
  | hostRead (v : Word) : Effect s (s.recordRead v).tick
  | cleaned (sp : Span) : Effect s (s.cleanRange sp)
  | invalidated (sp : Span) : Effect s (s.invalidateRange sp)
  | neighbourBusy (n : Neighbour) : Effect s (s.addNeighbour n)
  | neighbourIdle (k : Nat) : Effect s (s.dropNeighbour k)
  | neighbourWrite (k a : Nat) (b : Byte) : Effect s (s.neighbourWrites k a b)
  | aborted (c : Coord) (hc : c ∈ s.pending) : Effect s (s.abort c)
  | abortedUnwritten (hp : s.pending ≠ []) : Effect s s.raiseMemFault
  | sampled (c : Coord) (hc : c ∈ s.pending) (out : Sample)
      (hq : s.quantizeSample c (s.engineLoad (s.srcAddr c) s.srcBytes) = .ok out) : Effect s (s.writeSample c out)
  | illegalAborted (c : Coord) (hc : c ∈ s.pending) (f : Fault)
      (hq : s.quantizeSample c (s.engineLoad (s.srcAddr c) s.srcBytes) = .error f) : Effect s ((s.recordFault f).abort c)
  | illegalSampled (c : Coord) (hc : c ∈ s.pending) (f : Fault)
      (hq : s.quantizeSample c (s.engineLoad (s.srcAddr c) s.srcBytes) = .error f) :
      Effect s ((s.recordFault f).writeSample c s.freeSample)

/-! ### Writes -/

/-- The issue of TRANSFORM by an idle engine (42_transform_command R140). -/
theorem issueTransform_effect (hb : s.busy = false) : WriteEffect s s.issueTransform := by
  unfold State.issueTransform
  split
  · rename_i hv
    split
    · exact .emptyFrame hb hv
    · exact .accepted hb hv (by omega) (by omega)
  · rename_i hv
    exact .rejected _ hb hv

/-- TRANSFORM always answers a next state. -/
theorem execTransform_effect (s : State) : ∃ t, execTransform s = .next t ∧ WriteEffect s t := by
  refine ⟨_, rfl, ?_⟩
  cases hb : s.busy
  · exact issueTransform_effect hb
  · exact .dropped hb

/-- So does every other CMD word. -/
theorem illegalCommand_effect (s : State) : ∃ t, illegalCommand s = .next t ∧ WriteEffect s t := by
  refine ⟨_, rfl, ?_⟩
  cases hb : s.busy
  · exact .rejected _ hb (by simp)
  · exact .dropped hb

/-- Every 32-bit write at an aligned offset answers a next state. -/
theorem writeOffset_effect (off : BitVec 8) (w : Word) (s : State) :
    ∃ t, writeOffset off w s = .next t ∧ WriteEffect s t := by
  unfold writeOffset
  split
  · rw [runRequest_cmd32]
    split
    · exact execTransform_effect s
    · exact illegalCommand_effect s
  · exact ⟨_, rfl, .statusWritten w⟩
  · refine ⟨_, rfl, ?_⟩
    unfold State.writeConfig
    cases hb : s.busy
    · exact .configWritten _ w hb
    · exact .dropped hb
  · exact ⟨_, rfl, .same⟩

/-- What a write leaves unchanged, a command it issues included: everything but the registers, PENDING and what acceptance
records. -/
theorem WriteEffect.frame (h : WriteEffect s t) : t = { s with
    regs := t.regs, status := t.status, pending := t.pending, faults := t.faults, collided := t.collided } := by
  cases h with
  | accepted hb hv hw hh =>
    rw [State.mk.injEq]
    simp
  | _ => rfl

/-- A write takes no recorded fault back. -/
theorem WriteEffect.faults_mono (h : WriteEffect s t) {f : Fault} (hf : f ∈ s.faults) : f ∈ t.faults := by
  cases h with
  | accepted hb hv hw hh => exact State.mem_recordAcceptance_of_mem hf
  | _ => exact hf

/-- A write never ends a command (10_state R35, R42). -/
theorem WriteEffect.pending_eq (h : WriteEffect s t) (hb : s.busy = true) :
    t.pending = s.pending ∧ t.regs = s.regs ∧ t.collided = s.collided := by
  cases h <;> first | exact ⟨rfl, rfl, rfl⟩ | simp_all

/-- What every write keeps, the free writes of an unsupported access keep. -/
theorem freeWrites_induction {P : State → Prop} (hw : ∀ s t, P s → WriteEffect s t → P t) (n : Nat) (h : P s) :
    P (s.freeWrites n) := by
  induction n with
  | zero => exact h
  | succ n ih =>
    obtain ⟨t, he, hf⟩ := writeOffset_effect (s.freeOffset n) (s.freeWord n) (s.freeWrites n)
    simp only [State.freeWrites, nextOr, he]
    exact hw _ _ ih hf

/-- What the free writes of an unsupported access leave unchanged. -/
theorem State.freeWrites_frame (s : State) (n : Nat) : s.freeWrites n = { s with
    regs := (s.freeWrites n).regs, status := (s.freeWrites n).status, pending := (s.freeWrites n).pending,
    faults := (s.freeWrites n).faults, collided := (s.freeWrites n).collided } :=
  freeWrites_induction (P := fun t => t = { s with
    regs := t.regs, status := t.status, pending := t.pending, faults := t.faults, collided := t.collided })
    (fun _ _ h hw => by rw [hw.frame, h]) n rfl

theorem State.mem_freeWrites_of_mem (n : Nat) {f : Fault} (h : f ∈ s.faults) : f ∈ (s.freeWrites n).faults :=
  freeWrites_induction (P := fun t => f ∈ t.faults) (fun _ _ h hw => hw.faults_mono h) n h

/-- The free writes never end a command. -/
theorem State.freeWrites_pending_eq (n : Nat) (hb : s.busy = true) :
    (s.freeWrites n).pending = s.pending ∧ (s.freeWrites n).regs = s.regs ∧ (s.freeWrites n).collided = s.collided :=
  freeWrites_induction (P := fun t => t.pending = s.pending ∧ t.regs = s.regs ∧ t.collided = s.collided)
    (fun t u h hw => by
      obtain ⟨h1, h2, h3⟩ := hw.pending_eq (by rw [State.busy_congr h.1, hb])
      exact ⟨h1.trans h.1, h2.trans h.2.1, h3.trans h.2.2⟩) n ⟨rfl, rfl, rfl⟩

/-! ### Requests -/

/-- A sub-block request returns a value, and records its fault where it is no legal one. -/
theorem answer_effect (r : Except Fault Sample) (s : State) : ∃ t, answer r s = .next t ∧ Effect s t := by
  cases r with
  | ok v => exact ⟨_, rfl, .returned v⟩
  | error f => exact ⟨_, rfl, .illegalRequest f _⟩

/-- Every operation answers a next state in every state (30_encoding R86). -/
theorem exec_effect (i : Instr) (s : State) : ∃ t, exec i s = .next t ∧ Effect s t := by
  cases i with
  | transform =>
    obtain ⟨t, h, he⟩ := execTransform_effect s
    exact ⟨t, h, .written he⟩
  | patternLookup y x => exact answer_effect (.ok ((patternLookup s.rom y x).zeroExtend 16)) s
  | scaleLookup r l => exact answer_effect (scaleLookup s.rom r l) s
  | quantize tt r y x v => exact answer_effect (quantize s.rom tt r y x v) s

/-- So does every word at a port. -/
theorem runRequest_effect (q : Request) (s : State) : ∃ t, runRequest q s = .next t ∧ Effect s t := by
  unfold runRequest
  split
  · exact exec_effect _ s
  · obtain ⟨t, h, he⟩ := illegalCommand_effect s
    exact ⟨t, h, .written he⟩
  · exact answer_effect (.error .badQuantRequest) s

/-! ### Events -/

/-- An engine turn. -/
theorem engineTurn_effect {choice : Option Nat} (h : engineTurn choice s = .next t) : Effect s t := by
  rcases engineTurn_next_cases h with ⟨-, rfl⟩ | ⟨c, hc, rfl⟩ | ⟨hp, rfl⟩ | ⟨c, hc, out, hq, rfl⟩ | ⟨c, hc, f, hq, rfl | rfl⟩
  · exact .written .same
  · exact .aborted c hc
  · exact .abortedUnwritten hp
  · exact .sampled c hc out hq
  · exact .illegalAborted c hc f hq
  · exact .illegalSampled c hc f hq

/-- Every event that answers a next state, but for the reset input. -/
theorem handle_effect {e : Event} (he : e ≠ .reset) (h : handle e s = .next t) : Effect s t := by
  cases e with
  | regWrite bytes off w =>
    simp only [handle] at h
    split at h
    · obtain ⟨u, hu, hw⟩ := writeOffset_effect off w s
      rw [hu, Host.Outcome.next.injEq] at h
      exact h ▸ .written hw
    · simp only [unsupportedWrite, Host.Outcome.next.injEq] at h
      exact h ▸ .unsupportedWrite false
  | regRead bytes off =>
    simp only [handle] at h
    split at h
    · simp only [readOffsetStep, Host.Outcome.next.injEq] at h
      exact h ▸ .read off _
    · simp only [unsupportedRead, Host.Outcome.next.injEq] at h
      exact h ▸ .unsupportedRead _
  | poll off mask val =>
    simp only [handle, pollStep, unsupportedPoll] at h
    split at h <;> split at h
    · simp only [readOffsetStep, Host.Outcome.next.injEq] at h
      exact h ▸ .read off _
    · simp only [Host.Outcome.next.injEq] at h
      exact h ▸ .pollAgain off _
    · simp only [unsupportedRead, Host.Outcome.next.injEq] at h
      exact h ▸ .unsupportedRead _
    · simp only [Host.Outcome.next.injEq] at h
      exact h ▸ .unsupportedPoll _
  | memWrite a b =>
    simp only [handle, memWriteStep] at h
    split at h
    · simp only [unsupportedWrite, Host.Outcome.next.injEq] at h
      exact h ▸ .unsupportedWrite _
    · split at h
      · simp only [Host.Outcome.next.injEq] at h
        exact h ▸ .racingWrite _ _ ‹_›
      · split at h
        · simp at h
        · simp only [Host.Outcome.next.injEq] at h
          exact h ▸ .hostWrite _ _ (Bool.eq_false_iff.mpr ‹_›)
  | memRead a =>
    simp only [handle, memReadStep] at h
    split at h
    · simp only [unsupportedRead, Host.Outcome.next.injEq] at h
      exact h ▸ .unsupportedRead _
    · split at h
      · simp at h
      · simp only [Host.Outcome.next.injEq] at h
        exact h ▸ .hostRead _
  | cacheClean sp => simp only [handle, Host.Outcome.next.injEq] at h; exact h ▸ .cleaned sp
  | cacheInvalidate sp => simp only [handle, Host.Outcome.next.injEq] at h; exact h ▸ .invalidated sp
  | reset => exact absurd rfl he
  | engineTurn choice => exact engineTurn_effect h
  | request q =>
    obtain ⟨u, hu, hw⟩ := runRequest_effect q s
    rw [handle, hu, Host.Outcome.next.injEq] at h
    exact h ▸ hw
  | neighbourBusy n => simp only [handle, Host.Outcome.next.injEq] at h; exact h ▸ .neighbourBusy n
  | neighbourIdle k => simp only [handle, Host.Outcome.next.injEq] at h; exact h ▸ .neighbourIdle k
  | neighbourWrite k a b => simp only [handle, Host.Outcome.next.injEq] at h; exact h ▸ .neighbourWrite k _ b

/-- Taking no event from an empty inbox changes nothing. -/
theorem State.setInbox_self (s : State) : s.setInbox s.inbox = s := rfl

/-- Every step that answers a next state: the reset input, or an effect on the state left when its event is taken. -/
theorem step_effect (h : step s = .next t) :
    (∃ rest, s.inbox = .reset :: rest ∧ t = (s.setInbox rest).assertReset) ∨ Effect (s.setInbox s.inbox.tail) t := by
  cases hi : s.inbox with
  | nil =>
    rw [step_nil hi] at h
    have hs : s.setInbox ([] : List Event).tail = s := by
      rw [List.tail_nil, ← hi]
      rfl
    rw [hs]
    exact .inr (engineTurn_effect h)
  | cons e rest =>
    rw [step_cons hi] at h
    by_cases he : e = .reset
    · subst he
      simp only [handle, Host.Outcome.next.injEq] at h
      exact .inl ⟨rest, rfl, h.symm⟩
    · exact .inr (handle_effect he h)

end Sys2Proof.Machine
end

