-- ==== Sys2Proof/Tests/Slice0.lean ====
section
/-! SUPPORT. Tests: words written out from the spec's encodings, the vectors of 95_test_vectors.md under its fixture, the
well-formedness smoke tests, and for every statement with hypotheses a state and operands that meet them all. -/

namespace Sys2Proof.Tests

open Sys2Proof Sys2Proof.Machine

/-! ### States -/

/-- The fixture of 95_test_vectors.md section 0. -/
def fixture : Rom where
  pattern := Vector.ofFn fun y => Vector.ofFn fun x => BitVec.ofNat 4 ((x.val + 2 * y.val) % 4)
  scale := Vector.ofFn fun r => Vector.ofFn fun c => BitVec.ofNat 16 (min c.val 3 * 2 ^ (r.val + 1) / 3)
  levelMap := Vector.ofFn fun d => BitVec.ofNat 4 d.val

/-- A coherent platform that is all ordinary memory but for the register window. -/
def plain : Platform where
  regBase := 0xF0000000#32
  coherent := true
  devices := []
  unbacked := []
  readErrors := []
  writeErrors := []

/-- After reset, with the fixture. -/
def fresh : State := State.powerOn fixture plain

/-- Idle with given registers. -/
def configured (g : Regs) : State := { fresh with regs := g }

/-- The registers of program P1 (95_test_vectors.md L3): 10 to 8 bits, 4 x 2, separate buffers. -/
def regsP1 : Regs := ⟨0x0000080A#32, 0x00020004#32, 0x1000#32, 16#32, 0x2000#32, 8#32⟩

/-- A 1 x 1 command, 10 to 8 bits, separate buffers (T1's bases). -/
def regsOne : Regs := ⟨0x0000080A#32, 0x00010001#32, 0x1000#32, 2#32, 0x2000#32, 1#32⟩

/-- A busy 1 x 1 command with the sample value 1022 in memory. -/
def busyOne : State :=
  { configured regsOne with pending := [⟨0, 0⟩], mem := [(0x1000, 0xFE#8), (0x1001, 0x03#8)] }

/-- A state whose next event is `e`. -/
def before (s : State) (e : Event) : State := { s with inbox := [e] }

/-- The outcome is a next state with a property. -/
def nextIs (o : Host.Outcome State Fault Refusal) (p : State → Bool) : Bool :=
  match o with
  | .next s => p s
  | _ => false

/-- The outcome is a given fault. -/
def faultIs (o : Host.Outcome State Fault Refusal) (f : Fault) : Bool :=
  match o with
  | .fault g => decide (g = f)
  | _ => false

/-- A sub-block's answer is a given value. -/
def answers (r : Except Fault Sample) (v : Sample) : Bool :=
  match r with
  | .ok w => decide (w = v)
  | .error _ => false

theorem fixture_wf : Rom.WF fixture := ⟨by decide, by decide, by decide⟩

theorem fresh_inv : fresh.Inv :=
  ⟨by decide, by decide, by decide, by decide, by decide, fixture_wf, by decide, by decide, by decide, by decide, by decide⟩

theorem busyOne_inv : busyOne.Inv :=
  ⟨by decide, by decide, by decide, by decide, by decide, fixture_wf, by decide, by decide, by decide, by decide, by decide⟩

/-- A busy 2 x 1 command in place, 16 to 12 bits (P4 of 95_test_vectors.md L3, its first row). -/
def busyTwo : State :=
  { configured ⟨0x00000C10#32, 0x00010002#32, 0x4000#32, 6#32, 0x4000#32, 6#32⟩ with
    pending := [⟨0, 0⟩, ⟨1, 0⟩], mem := [(0x4000, 0xFF#8), (0x4001, 0xFF#8), (0x4002, 0x34#8), (0x4003, 0x12#8)] }

theorem busyTwo_inv : busyTwo.Inv :=
  ⟨by decide, by decide, by decide, by decide, by decide, fixture_wf, by decide, by decide, by decide, by decide, by decide⟩

/-! ### Well-formedness: an ill-formed term for each check is refused (30_encoding R84, R85) -/

theorem test_wf_scale_row_zero : (Instr.scaleLookup 0#4 5#4).wellFormed = false := by decide
theorem test_wf_quant_t_zero : (Instr.quantize 0#5 2#4 0#3 0#3 0#16).wellFormed = false := by decide
theorem test_wf_quant_t_seventeen : (Instr.quantize 17#5 0#4 0#3 0#3 0#16).wellFormed = false := by decide
theorem test_wf_quant_sum : (Instr.quantize 16#5 1#4 0#3 0#3 0#16).wellFormed = false := by decide
theorem test_wf_accepts : (Instr.quantize 1#5 15#4 7#3 7#3 0xFFFF#16).wellFormed = true := by decide

/-! ### Decoding: words written out bit by bit from the spec -/

/-- 30_encoding R80: OPCODE 0x01, RSVD 0. -/
theorem test_decode_transform : decode (.cmd32 0b00000000000000000000000000000001#32) = .ok .transform := by rfl
/-- 40_lookup_units R100: `{001, 101}`. -/
theorem test_decode_pattern : decode (.patAddr 0b001101#6) = .ok (.patternLookup 1#3 5#3) := by rfl
/-- 40_lookup_units R104: index 0x23. -/
theorem test_decode_scale : decode (.scaleAddr 0b00100011#8) = .ok (.scaleLookup 2#4 3#4) := by rfl
/-- 30_encoding R85: RSVD 0, T 01000, R 0010, YL 001, XL 101, V 0x03E8. -/
theorem test_decode_quantize :
    decode (.quantReq 0b00100000100011010000001111101000#32) = .ok (.quantize 8#5 2#4 1#3 5#3 1000#16) := by rfl
/-- 30_encoding R87: OPCODE 0x01 with a reserved bit set is illegal. -/
theorem test_decode_rsvd : decode (.cmd32 0x00000101#32) = .error (.illegalCommand 0x00000101#32) := by rfl
/-- The words of the opcode table, and that a placed word runs as the first operation after reset. -/
theorem test_table_words :
    decodeTableWord 32 1 = some .transform ∧ decodeTableWord 6 0x0D = some (.patternLookup 1#3 5#3) ∧
    decodeTableWord 8 0x23 = some (.scaleLookup 2#4 3#4) ∧
    decodeTableWord 32 0x208D03E8 = some (.quantize 8#5 2#4 1#3 5#3 1000#16) := by decide
theorem test_placed_transform_after_reset :
    nextIs (step (State.reset.withFetchWord 32 1)) (fun t => t.statusWord == 0x24#32) = true := by decide

/-! ### The four operations (at most two each) -/

/-- T1: a valid command is accepted with all eight coordinates pending; a collision that an earlier command met does not
stay with it (10_state R43). -/
theorem test_transform_accepts :
    nextIs (exec .transform { configured regsP1 with collided := true })
      (fun t => t.statusWord == 1#32 && t.pending.length == 8 && !t.contended) = true := by
  decide
/-- T18: a null base is BUFFER even for an empty frame. -/
theorem test_transform_null_base :
    nextIs (exec .transform (configured { regsP1 with frameSize := 0#32, srcBase := 0#32, srcStride := 0#32 }))
      (fun t => t.statusWord == 0x34#32) = true := by decide
/-- P7: (13, 9) reads 3. -/
theorem test_pattern_p7 :
    nextIs (exec (.patternLookup (tileField 9) (tileField 13)) fresh) (fun t => t.returned == some 3#16) = true := by decide
/-- P4: (0, 1) reads 2, so the row is `y`. -/
theorem test_pattern_p4 :
    nextIs (exec (.patternLookup (tileField 1) (tileField 0)) fresh) (fun t => t.returned == some 2#16) = true := by decide
/-- S6: row 15, column 1. -/
theorem test_scale_s6 : nextIs (exec (.scaleLookup 15#4 1#4) fresh) (fun t => t.returned == some 10922#16) = true := by
  decide
/-- S9: row 0 is reserved. -/
theorem test_scale_s9 : nextIs (exec (.scaleLookup 0#4 5#4) fresh) (fun t => t.faults == [.scaleRowZero]) = true := by
  decide
/-- Q18: 16 to 15 bits, clamped. -/
theorem test_quantize_q18 : answers (quantize fixture 15#5 1#4 0#3 3#3 65535#16) 32767#16 = true := by decide
/-- Q1: pass-through above `2^T - 1`. -/
theorem test_quantize_q1 : answers (quantize fixture 8#5 0#4 0#3 0#3 1000#16) 1000#16 = true := by decide

/-! ### Registers and sample steps -/

/-- G2: reserved bits of DEPTH are not stored. -/
theorem test_depth_reserved :
    nextIs (step (before fresh (wr .depth 0xFFFFFFFF#32))) (fun t => t.readReg .depth == 0x00001F1F#32) = true := by decide
/-- G5: clearing ERR clears ERR_CODE. -/
theorem test_clear_err :
    nextIs (step (before { fresh with status := ⟨false, true, true, .config⟩ } (wr .status 4#32)))
      (fun t => t.statusWord == 8#32) = true := by decide
/-- G14: an 8-bit write at offset 4. -/
theorem test_byte_write :
    Fault.unsupportedRegisterAccess ∈ ((fresh.recordFault .unsupportedRegisterAccess).freeWrites 8).tick.faults ∧
    step (before fresh (.regWrite 1 4#8 0#32)) =
      .next ((fresh.recordFault .unsupportedRegisterAccess).freeWrites 8).tick :=
  ⟨State.mem_freeWrites_of_mem 8 (by decide), rfl⟩
/-- 42_transform_command R149: the samples of busyTwo in the order (1,0), (0,0) leave what the other order leaves. -/
theorem test_sample_order :
    nextIs (engineTurn (some 1) busyTwo) (fun t => nextIs (engineTurn (some 0) t) (fun u =>
      nextIs (engineTurn (some 0) busyTwo) (fun v => nextIs (engineTurn (some 0) v) (fun w =>
        t.pending == [⟨0, 0⟩] && v.pending == [⟨1, 0⟩] && u.mem == w.mem && u.status == w.status)))) = true := by decide
/-- 20_memory R72: where no pending read can be done, neither an abort on a read nor a reset changes an output container. -/
theorem test_read_error_keeps_output :
    let s := { busyTwo with platform := { plain with readErrors := [⟨0x4000, 4⟩] } }
    nextIs (sampleStep ⟨0, 0⟩ s) (fun t => t.mem == s.mem && t.statusWord == 0x44#32) = true ∧
    nextIs (step (before s .reset)) (fun t => t.mem == s.mem && t.statusWord == 0#32) = true := by decide
/-- 20_memory R72: where only (1,0) can have been read, its container is the only one that may be in flight. -/
theorem test_in_flight :
    { busyTwo with platform := { plain with readErrors := [⟨0x4001, 1⟩] } }.inFlight = [⟨1, 0⟩] ∧
    busyTwo.inFlight = busyTwo.pending := by decide
/-- 70_reset_and_hazards R211: two other instances whose outputs share a byte. -/
theorem test_others_collide :
    nextIs (step (before { fresh with neighbours := [⟨⟨0x9000, 1, 1, 1, 1⟩, ⟨0xA000, 4, 4, 1, 1⟩⟩] }
        (.neighbourBusy ⟨⟨0x9100, 1, 1, 1, 1⟩, ⟨0xA003, 4, 4, 1, 1⟩⟩)))
      (fun t => t.faults == [.concurrentInstanceOverlap] && !t.collided) = true := by decide
/-- P1's sample (2,1): 1022 gives 0xFF; the last sample completes the command in the same step. -/
theorem test_sample_completes :
    nextIs (sampleStep ⟨0, 0⟩ busyOne) (fun t => t.peek 0x2000 == 0xFF#8 && t.statusWord == 2#32 && t.peek 0x1000 == 0xFE#8)
      = true := by decide
/-- P4's sample (1,0), in place, 16 to 12 bits: 0x1234 gives 0x0123, low byte first. -/
theorem test_sample_in_place :
    nextIs (sampleStep ⟨1, 0⟩ { configured ⟨0x00000C10#32, 0x00010002#32, 0x4000#32, 6#32, 0x4000#32, 6#32⟩ with
        pending := [⟨0, 0⟩, ⟨1, 0⟩], mem := [(0x4002, 0x34#8), (0x4003, 0x12#8)] })
      (fun t => t.peek 0x4002 == 0x23#8 && t.peek 0x4003 == 0x01#8 && t.statusWord == 1#32) = true := by decide
/-- 42_transform_command R152: a bus error aborts with MEM_FAULT, code 4. -/
theorem test_bus_error :
    nextIs (sampleStep ⟨0, 0⟩ { busyOne with platform := { plain with readErrors := [⟨0x1001, 1⟩] } })
      (fun t => t.statusWord == 0x44#32) = true := by decide

/-! ### Witnesses: states and operands that meet the hypotheses of a statement, by the statement's name -/

theorem witness_EncodeOfDecode : decode (.quantReq 0x7FC70000#32) = .ok (.quantize 31#5 15#4 0#3 7#3 0#16) := by rfl

theorem witness_StepRunsTheDecodedOperation :
    (before fresh cmdTransform).fetched = some (.cmd32 1#32) ∧ decode (.cmd32 1#32) = .ok .transform ∧
    (before fresh (.request (.patAddr 63#6))).fetched = some (.patAddr 63#6) := ⟨rfl, rfl, rfl⟩

theorem witness_PlacedWordIsExecuted : decodeTableWord 8 0xFF = some (.scaleLookup 15#4 15#4) := by decide

theorem witness_OtherCommandWordsAreIllegal :
    (before fresh (wr .cmd 0x101#32)).inbox = wr .cmd 0x101#32 :: [] ∧ 0x101#32 ≠ 0x00000001#32 ∧
    (before fresh (wr .cmd 0x101#32)).busy = false := by decide

theorem witness_StatusWriteClearsByOnes :
    (before busyOne (wr .status 0xE#32)).inbox = wr .status 0xE#32 :: [] := rfl

theorem witness_RegisterWritesStoreOrDrop :
    ((before busyOne (wr .cmd 1#32)).inbox = wr .cmd 1#32 :: [] ∧ Reg.cmd ≠ .status ∧
      (before busyOne (wr .cmd 1#32)).busy = true) ∧
    ((before fresh (wr .cmd 0#32)).inbox = wr .cmd 0#32 :: [] ∧ (before fresh (wr .cmd 0#32)).busy = false) ∧
    ((before fresh (wr .dstStride 5#32)).inbox = wr .dstStride 5#32 :: [] ∧ Reg.dstStride ≠ .status ∧
      Reg.dstStride ≠ .cmd ∧ (before fresh (wr .dstStride 5#32)).busy = false) := by decide

theorem witness_ReservedOffsetsReadZero :
    (0x20#8 ≤ 0x20#8 ∧ (0x20#8).toNat % 4 = 0 ∧ (before fresh (.regRead 4 0x20#8)).inbox = .regRead 4 0x20#8 :: []) ∧
    (0x20#8 ≤ 0xFC#8 ∧ (0xFC#8).toNat % 4 = 0 ∧
      (before busyOne (.regWrite 4 0xFC#8 1#32)).inbox = .regWrite 4 0xFC#8 1#32 :: []) := by decide

theorem witness_ReservedBits : fresh.Inv := fresh_inv

theorem witness_UnsupportedAccessIsRecorded :
    ((1 ≠ 4 ∨ (4#8).toNat % 4 ≠ 0) ∧ (before fresh (.regRead 1 4#8)).inbox = .regRead 1 4#8 :: []) ∧
    ((4 ≠ 4 ∨ (2#8).toNat % 4 ≠ 0) ∧ (before busyOne (.regWrite 4 2#8 0#32)).inbox = .regWrite 4 2#8 0#32 :: [] ∧
      (before busyOne (.regWrite 4 2#8 0#32)).busy = true) ∧
    ((before fresh (mr8 0xF0000000#32)).inWindow (0xF0000000#32).toNat = true ∧
      (before fresh (mr8 0xF0000000#32)).inbox = mr8 0xF0000000#32 :: []) ∧
    ((before fresh (mw8 0xF00000FF#32 0#8)).inWindow (0xF00000FF#32).toNat = true ∧
      (before fresh (mw8 0xF00000FF#32 0#8)).inbox = mw8 0xF00000FF#32 0#8 :: []) := by decide

theorem witness_RegisterReadsHaveNoSideEffect :
    (before busyOne (.regRead 4 0xFC#8)).inbox = .regRead 4 0xFC#8 :: [] ∧ (0xFC#8).toNat % 4 = 0 := by decide

theorem witness_ResetInputClearsTheBlock :
    let s := { before busyTwo .reset with platform := { plain with readErrors := [⟨0x4000, 4⟩] } }
    ((before fresh .reset).inbox = .reset :: [] ∧ (before fresh .reset).busy = false) ∧
    ((before busyOne .reset).inbox = .reset :: [] ∧ (before busyOne .reset).busy = true) ∧
    (s.inbox = .reset :: [] ∧ s.busy = true ∧ s.inFlight = []) := by decide

theorem witness_PatternValuesAreBelowFour : busyOne.Inv := busyOne_inv

theorem witness_BiasIsMonotoneInPatternValue :
    Rom.WF fixture ∧ 1#4 ≤ 3#4 ∧ scaleLookup fixture 2#4 (Rom.levelAt fixture 1#4) = .ok 1#16 ∧
    scaleLookup fixture 2#4 (Rom.levelAt fixture 3#4) = .ok 4#16 := ⟨fixture_wf, by decide, rfl, rfl⟩

theorem witness_QuantizePassesThrough :
    (1 ≤ (1#5).toNat ∧ (1#5).toNat ≤ 16) ∧ (1 ≤ (16#5).toNat ∧ (16#5).toNat ≤ 16) := by decide

theorem witness_QuantizeAddsShiftsAndClamps :
    (1 ≤ (1#5).toNat ∧ (1#5).toNat + ((14 : Fin 15).val + 1) ≤ 16) ∧
    (1 ≤ (15#5).toNat ∧ (15#5).toNat + ((0 : Fin 15).val + 1) ≤ 16) := by decide

theorem witness_IllegalQuantizeRequestsAreRecorded :
    ¬(1 ≤ (0#5).toNat ∧ (0#5).toNat ≤ 16 ∧ (0#5).toNat + (2#4).toNat ≤ 16) ∧
    ¬(1 ≤ (17#5).toNat ∧ (17#5).toNat ≤ 16 ∧ (17#5).toNat + (0#4).toNat ≤ 16) ∧
    ¬(1 ≤ (16#5).toNat ∧ (16#5).toNat ≤ 16 ∧ (16#5).toNat + (1#4).toNat ≤ 16) ∧
    ((before fresh (.request (.quantReq 0xA0000000#32))).inbox = .request (.quantReq 0xA0000000#32) :: [] ∧
      (0xA0000000#32).getLsbD 31 = true) := by decide

theorem witness_QuantizeStaysInRange : 2#4 ≠ 0#4 ∧ quantize fixture 8#5 2#4 0#3 3#3 1023#16 = .ok 255#16 :=
  ⟨by decide, rfl⟩

theorem witness_QuantizeIsMonotone :
    100#16 ≤ 1023#16 ∧ quantize fixture 8#5 2#4 1#3 1#3 100#16 = .ok 26#16 ∧
    quantize fixture 8#5 2#4 1#3 1#3 1023#16 = .ok 255#16 := ⟨by decide, rfl, rfl⟩

theorem witness_QuantizeDitherIsBounded : 15#4 ≠ 0#4 ∧ quantize fixture 1#5 15#4 0#3 3#3 65535#16 = .ok 1#16 :=
  ⟨by decide, rfl⟩

theorem witness_DatapathIsSeventeenBits : 0 ≤ 16 ∧ 16 ≤ 16 := by decide

theorem witness_FifteenBitReductionIsAThreshold :
    quantLegal 1#5 15#4 = true ∧ scaleLookup fixture 15#4 (Rom.levelAt fixture (Rom.patternAt fixture 0#3 1#3)) = .ok 10922#16 :=
  ⟨by decide, rfl⟩

theorem witness_TransformWhileBusyIsDropped :
    (before busyOne (wr .cmd 2#32)).busy = true ∧ (before busyOne (wr .cmd 2#32)).inbox = wr .cmd 2#32 :: [] := by decide

/-- T13: the source ends past 2^32; T5: the reset values of DEPTH. -/
theorem witness_TransformRejectsInvalidOperands :
    let t13 := before (configured { regsP1 with srcBase := 0xFFFFFFF0#32 }) cmdTransform
    (t13.busy = false ∧ t13.validate = .buffer ∧ t13.inbox = cmdTransform :: []) ∧ (fresh.busy = false ∧ fresh.validate = .config) ∧
    (0x00000101#32 ≠ transformWord ∧ (before fresh (wr .cmd 0x00000101#32)).busy = false ∧
      (before fresh (wr .cmd 0x00000101#32)).inbox = wr .cmd 0x00000101#32 :: []) := by decide

/-- Each condition at its boundary: S 0 and 17, T 0 and 17, T > S, S - T 16. -/
theorem witness_TransformRaisesConfig :
    let s := fun d => configured { regsP1 with depth := d }
    (s 0x0100#32).busy = false ∧ (s 0x0100#32).srcDepth < 1 ∧ 16 < (s 0x0111#32).srcDepth ∧
    (s 0x0010#32).dstDepth < 1 ∧ 16 < (s 0x1111#32).dstDepth ∧ (s 0x0A08#32).srcDepth < (s 0x0A08#32).dstDepth ∧
    15 < ((s 0x0010#32).srcDepth : Int) - ((s 0x0010#32).dstDepth : Int) := by decide

/-- T16 and T17. -/
theorem witness_TransformOfEmptyFrameIsDone :
    let s := fun f => configured { regsP1 with frameSize := f }
    ((s 0x00050000#32).busy = false ∧ (s 0x00050000#32).validate = .none ∧ (s 0x00050000#32).width = 0) ∧
    ((s 0x00000004#32).busy = false ∧ (s 0x00000004#32).validate = .none ∧ (s 0x00000004#32).height = 0) := by decide

/-- T6 and T15: the largest reduction, and buffers that end at the top byte. -/
theorem witness_TransformAcceptsAFrame :
    let t6 := configured ⟨0x0110#32, 0x00010001#32, 0x1000#32, 2#32, 0x2000#32, 1#32⟩
    let t15 := configured ⟨0x0809#32, 0x00010001#32, 0xFFFFFFFE#32, 2#32, 0xFFFFFFFF#32, 1#32⟩
    (t6.busy = false ∧ t6.validate = .none ∧ 0 < t6.width ∧ 0 < t6.height) ∧
    (t15.busy = false ∧ t15.validate = .none ∧ 0 < t15.width ∧ 0 < t15.height) := by decide

/-- A layout that is OVERLAPPING (equal bases, 10 to 8 bits: 42_transform_command R155), one that meets a device, one that
collides with a busy instance. -/
theorem witness_AcceptanceRecordsHazards :
    let o := configured { regsP1 with dstBase := 0x1000#32 }
    let d := { configured regsP1 with platform := { plain with devices := [⟨0x200B, 1⟩] } }
    let n := { configured regsP1 with neighbours := [⟨⟨0x9000, 1, 1, 1, 1⟩, ⟨0x2003, 1, 1, 1, 1⟩⟩] }
    (o.busy = false ∧ o.validate = .none ∧ 0 < o.width ∧ 0 < o.height ∧ o.layout = .overlapping) ∧
    (d.busy = false ∧ d.validate = .none ∧ d.buffersMeetDevice = true) ∧
    (n.busy = false ∧ n.validate = .none ∧ n.neighbours.any n.collidesWith = true) ∧
    nextIs (exec .transform o) (fun t => t.faults == [.bufferOverlap]) = true ∧
    nextIs (exec .transform d) (fun t => t.faults == [.bufferInDeviceRegion]) = true ∧
    nextIs (exec .transform n) (fun t => t.faults == [.concurrentInstanceOverlap]) = true := by decide

theorem witness_TransformFrame : ∃ t, exec .transform busyOne = .next t := ⟨_, rfl⟩

/-- T12: the last source byte is 0xFFFFFFFF. -/
theorem witness_AcceptedContainersFitTheAddressSpace :
    let s := configured { regsP1 with srcBase := 0xFFFFFFF0#32, srcStride := 8#32 }
    s.validate = .none ∧ s.inFrame ⟨3, 1⟩ ∧ s.srcAddr ⟨3, 1⟩ + s.srcBytes = 2 ^ 32 :=
  ⟨by decide, ⟨by decide, by decide⟩, by decide⟩

/-- One state of each layout, with samples: P2 in place, P1, and equal bases with containers of different size. -/
theorem witness_LayoutsAreExclusive :
    let i := configured ⟨0x0808#32, 0x00020003#32, 0x3000#32, 4#32, 0x3000#32, 4#32⟩
    let d := configured regsP1
    let o := configured { regsP1 with dstBase := 0x1000#32 }
    (i.layout = .identical ∧ 0 < i.width ∧ 0 < i.height) ∧ (d.layout = .disjoint ∧ 0 < d.width ∧ 0 < d.height) ∧
    (o.layout = .overlapping ∧ 0 < o.width ∧ 0 < o.height) := by decide

theorem busyOne_ordinary (w : Bool) (a n : Nat) (h : n ≤ 2) (ha : a = 0x1000 ∨ a = 0x2000) : busyOne.ordinary w a n := by
  intro k hk
  have : k = 0 ∨ k = 1 := by omega
  rcases ha with rfl | rfl <;> rcases this with rfl | rfl <;> cases w <;> decide

/-- A host write beside the input container still waits to be cleaned. -/
def busyDirty : State := { busyOne with hostDirty := [(0x0FFF, 7#8), (0x1002, 7#8)] }

theorem witness_SampleStepWritesItsSample :
    busyDirty.Inv ∧ ⟨0, 0⟩ ∈ busyDirty.pending ∧ busyDirty.contended = false ∧
    busyDirty.hostClean (busyDirty.srcAddr ⟨0, 0⟩) busyDirty.srcBytes ∧
    busyDirty.ordinary false (busyDirty.srcAddr ⟨0, 0⟩) busyDirty.srcBytes ∧
    busyDirty.ordinary true (busyDirty.dstAddr ⟨0, 0⟩) busyDirty.dstBytes :=
  ⟨⟨by decide, by decide, by decide, by decide, by decide, fixture_wf, by decide, by decide, by decide, by decide, by decide⟩,
    by decide, by decide, by unfold State.hostClean; decide, busyOne_ordinary _ _ _ (by decide) (by decide),
    busyOne_ordinary _ _ _ (by decide) (by decide)⟩

theorem witness_SampleStepRequestsQuantize :
    busyOne.validate = .none ∧ busyOne.quantizeSample ⟨0, 0⟩ 1022#16 = .ok 255#16 := ⟨by decide, rfl⟩

theorem witness_EngineWritesOnlyOutputBytes :
    busyOne.Inv ∧ (∃ t, engineTurn none busyOne = .next t) ∧ busyOne.dstBuffer.contains 0x2001 = false :=
  ⟨busyOne_inv, ⟨_, (by rfl : engineTurn none busyOne = .next (busyOne.writeSample ⟨0, 0⟩ 255#16))⟩, by decide⟩

/-- A busy command whose read, or whose write, answers with a bus error. -/
def busyErr (isWrite : Bool) : State :=
  { busyOne with platform :=
      { plain with
        readErrors := if isWrite then [] else [⟨0x1001, 1⟩]
        writeErrors := if isWrite then [⟨0x2000, 1⟩] else [] } }

theorem busyErr_inv (w : Bool) : (busyErr w).Inv := by
  cases w
  all_goals
    exact ⟨by decide, by decide, by decide, by decide, by decide, fixture_wf, by decide, by decide, by decide, by decide, by decide⟩

theorem busyErr_read_ordinary : (busyErr true).ordinary false ((busyErr true).srcAddr ⟨0, 0⟩) (busyErr true).srcBytes := by
  intro k hk
  have h2 : (busyErr true).srcBytes = 2 := by decide
  have : k = 0 ∨ k = 1 := by omega
  rcases this with rfl | rfl <;> decide

theorem witness_BusErrorAbortsTheCommand :
    ((busyErr false).Inv ∧ ⟨0, 0⟩ ∈ (busyErr false).pending ∧
      (busyErr false).accessErrs false ((busyErr false).srcAddr ⟨0, 0⟩) (busyErr false).srcBytes = true) ∧
    ((busyErr true).Inv ∧ ⟨0, 0⟩ ∈ (busyErr true).pending ∧
      (busyErr true).ordinary false ((busyErr true).srcAddr ⟨0, 0⟩) (busyErr true).srcBytes ∧
      (busyErr true).accessErrs true ((busyErr true).dstAddr ⟨0, 0⟩) (busyErr true).dstBytes = true) :=
  ⟨⟨busyErr_inv false, by decide, by decide⟩, busyErr_inv true, by decide, busyErr_read_ordinary, by decide⟩

/-- The read clause's other case: a second pending coordinate, whose own read does not fail. -/
theorem witness_BusErrorAbortsTheCommand_inFlight :
    let s := { busyTwo with platform := { plain with readErrors := [⟨0x4001, 1⟩] } }
    s.Inv ∧ ⟨0, 0⟩ ∈ s.pending ∧ s.accessErrs false (s.srcAddr ⟨0, 0⟩) s.srcBytes = true ∧
      ⟨1, 0⟩ ∈ s.pending ∧ s.accessErrs false (s.srcAddr ⟨1, 0⟩) s.srcBytes = false := by
  refine ⟨⟨?_, ?_, ?_, ?_, ?_, fixture_wf, ?_, ?_, ?_, ?_, ?_⟩, ?_, ?_, ?_, ?_⟩ <;> decide

/-- A busy command whose output lies in a device, with the fault recorded at acceptance. -/
def busyDevice : State :=
  { busyOne with platform := { plain with devices := [⟨0x2000, 1⟩] }, faults := [.bufferInDeviceRegion] }

theorem witness_EngineTurnFaultsOnlyOnDevices :
    busyDevice.Inv ∧ faultIs (engineTurn none busyDevice) .bufferInDeviceRegion = true :=
  ⟨⟨by decide, by decide, by decide, by decide, by decide, fixture_wf, by decide, by decide, by decide, by decide, by decide⟩, by decide⟩

theorem witness_CommandEndsWithAReport :
    busyOne.busy = true ∧ nextIs (step busyOne) (fun t => !t.busy) = true ∧ (∀ rest, busyOne.inbox ≠ .reset :: rest) :=
  ⟨by decide, by decide, by simp [busyOne, configured, fresh, State.powerOn]⟩

/-- Two samples pending. -/
theorem witness_AcceptedCommandEnds :
    busyTwo.Inv ∧ busyTwo.inbox = [] ∧ busyTwo.buffersMeetDevice = false ∧ busyTwo.busy = true ∧
    busyTwo.pending.length = 2 :=
  ⟨busyTwo_inv, by decide, by decide, by decide, by decide⟩

theorem busyTwo_ordinary (w : Bool) (a n : Nat) (h : n ≤ 2) (ha : a = 0x4000 ∨ a = 0x4002) : busyTwo.ordinary w a n := by
  intro k hk
  have : k = 0 ∨ k = 1 := by omega
  rcases ha with rfl | rfl <;> rcases this with rfl | rfl <;> cases w <;> decide

/-- Two samples, in place, so that the order is free and each output is an input container. -/
theorem witness_CompletedCommandEndState :
    busyTwo.Inv ∧ busyTwo.inbox = [] ∧ busyTwo.busy = true ∧ busyTwo.pending = frameCoords busyTwo.width busyTwo.height ∧
    busyTwo.contended = false ∧ busyTwo.layout = .identical ∧
    (∀ c, busyTwo.inFrame c → busyTwo.hostClean (busyTwo.srcAddr c) busyTwo.srcBytes) ∧
    (∀ c, busyTwo.inFrame c → busyTwo.ordinary false (busyTwo.srcAddr c) busyTwo.srcBytes ∧
      busyTwo.ordinary true (busyTwo.dstAddr c) busyTwo.dstBytes) := by
  refine ⟨busyTwo_inv, by decide, by decide, by decide, by decide, by decide, ?_, ?_⟩
  · intro c _ cell h
    exact absurd h List.not_mem_nil
  rintro ⟨x, y⟩ ⟨hx, hy⟩
  have hw : busyTwo.width = 2 := by decide
  have hh : busyTwo.height = 1 := by decide
  have hx0 : x = 0 ∨ x = 1 := by simp only [hw] at hx; omega
  have hy0 : y = 0 := by simp only [hh] at hy; omega
  subst hy0
  rcases hx0 with rfl | rfl <;>
    exact ⟨busyTwo_ordinary _ _ _ (by decide) (by decide), busyTwo_ordinary _ _ _ (by decide) (by decide)⟩

theorem witness_StepKeepsTheInvariant :
    busyOne.Inv ∧ ∃ t, step busyOne = .next t :=
  ⟨busyOne_inv, _, (by rfl : step busyOne = .next (busyOne.writeSample ⟨0, 0⟩ 255#16))⟩

theorem witness_TablesNeverChange : ∃ t, step (before busyOne .reset) = .next t := ⟨_, rfl⟩

theorem witness_RecordedFaultsAreNeverCleared :
    (before busyDevice .reset).faulted = true ∧ ∃ t, step (before busyDevice .reset) = .next t := ⟨by decide, _, rfl⟩

theorem witness_ConfigurationIsFixedWhileBusy :
    (before busyOne (wr .depth 0x808#32)).busy = true ∧
    nextIs (step (before busyOne (wr .depth 0x808#32))) (fun t => t.busy) = true := by decide

theorem witness_IdleBlockDoesNothing : fresh.inbox = [] ∧ fresh.busy = false := by decide

theorem witness_HostWriteReachesMemory :
    (before busyOne (mw8 0x1002#32 7#8)).inbox = mw8 0x1002#32 7#8 :: [] ∧
    (before busyOne (mw8 0x1002#32 7#8)).inBusyBuffer 0x1002 = false ∧
    Platform.kindOf (before busyOne (mw8 0x1002#32 7#8)).platform 0x1002 = .ram ∧
    (before busyOne (mw8 0x1002#32 7#8)).platform.coherent = true ∧
    (before busyOne (mw8 0x1002#32 7#8)).hostClean 0x1002 1 := by unfold State.hostClean; decide

/-- A byte of ordinary memory, of the register window, and of another device, each in the source buffer. -/
theorem witness_RacingHostWriteIsRecorded :
    let s := { before busyOne (mw8 0x1001#32 7#8) with platform := { plain with regBase := 0x1001#32 } }
    let d := { before busyOne (mw8 0x1001#32 7#8) with platform := { plain with devices := [⟨0x1001, 1⟩] } }
    ((before busyOne (mw8 0x1001#32 7#8)).inbox = mw8 0x1001#32 7#8 :: [] ∧
      (before busyOne (mw8 0x1001#32 7#8)).inBusyBuffer 0x1001 = true ∧
      Platform.kindOf (before busyOne (mw8 0x1001#32 7#8)).platform 0x1001 = .ram) ∧
    (s.inbox = mw8 0x1001#32 7#8 :: [] ∧ s.inBusyBuffer 0x1001 = true ∧ s.inWindow 0x1001 = true) ∧
    (d.inbox = mw8 0x1001#32 7#8 :: [] ∧ d.inBusyBuffer 0x1001 = true ∧ d.inOtherDevice 0x1001 = true) := by decide

/-- 70_reset_and_hazards R210: a racing write to a device is recorded, and the device's other bytes are refused. -/
theorem test_race_in_device :
    let d := { busyOne with platform := { plain with devices := [⟨0x1001, 2⟩] } }
    nextIs (step (before d (mw8 0x1001#32 7#8))) (fun t => t.faults == [.hostWriteToBusyBuffer] && t.mem == d.mem) = true ∧
    step (before d (mw8 0x1002#32 7#8)) = .refused .hostDeviceAccess := ⟨by decide, by rfl⟩

theorem witness_HostReadSeesCurrentOrOlderByte :
    let d := { before busyOne (mr8 0x1001#32) with platform := { plain with devices := [⟨0x1001, 1⟩] } }
    ((before busyOne (mr8 0x1001#32)).inbox = mr8 0x1001#32 :: [] ∧
      Platform.kindOf (before busyOne (mr8 0x1001#32)).platform 0x1001 = .ram) ∧
    (d.inbox = mr8 0x1001#32 :: [] ∧ d.inBusyBuffer 0x1001 = true ∧ d.inWindow 0x1001 = false ∧
      d.inOtherDevice 0x1001 = true) := by decide

theorem witness_StatusReadSynchronises :
    let s := { before fresh (rd .status) with unsynced := [(0x2000, 1#8)], hostCached := [(0x2001, 1#8)] }
    s.inbox = rd .status :: [] ∧ s.busy = false ∧ s.platform.coherent = true ∧
    Platform.kindOf s.platform 0x2000 = .ram ∧ ∀ cell ∈ s.hostCached, cell.1 ≠ 0x2000 := by decide

theorem witness_CleaningMakesHostWritesVisible :
    let s := { before fresh (.cacheClean ⟨0x1000, 16⟩) with hostDirty := [(0x100F, 1#8)] }
    s.inbox = .cacheClean ⟨0x1000, 16⟩ :: [] ∧ spanContains ⟨0x1000, 16⟩ 0x100F = true ∧
    Platform.kindOf s.platform 0x100F = .ram := by decide

theorem witness_InvalidatingShowsEngineWrites :
    let s := { before fresh (.cacheInvalidate ⟨0x2000, 16⟩) with hostCached := [(0x2000, 1#8)] }
    s.inbox = .cacheInvalidate ⟨0x2000, 16⟩ :: [] ∧ s.unsynced = [] ∧ spanContains ⟨0x2000, 16⟩ 0x2000 = true ∧
    Platform.kindOf s.platform 0x2000 = .ram := by decide

/-- Each of the three collisions: with the other's output, with its input, and of its output with our input. -/
theorem witness_InstanceCollisionIsRecorded :
    let far : Buffer := ⟨0x9000, 1, 1, 1, 1⟩
    let onDst : Buffer := ⟨0x2000, 1, 1, 1, 1⟩
    let onSrc : Buffer := ⟨0x1001, 1, 1, 1, 1⟩
    (before busyOne (.neighbourBusy ⟨far, onDst⟩)).inbox = .neighbourBusy ⟨far, onDst⟩ :: [] ∧
    (before busyOne (.neighbourBusy ⟨far, onDst⟩)).busy = true ∧ busyOne.dstBuffer.overlaps onDst = true ∧
    busyOne.dstBuffer.overlaps (Neighbour.mk onDst far).src = true ∧ onSrc.overlaps busyOne.srcBuffer = true ∧
    busyOne.collidesWith ⟨far, ⟨0x9001, 1, 1, 1, 1⟩⟩ = false ∧
    (let s := { busyOne with neighbours := [⟨far, ⟨0xA000, 4, 4, 1, 1⟩⟩] }
     ⟨far, ⟨0xA000, 4, 4, 1, 1⟩⟩ ∈ s.neighbours ∧ (⟨0xA000, 4, 4, 1, 1⟩ : Buffer).overlaps ⟨0xA003, 1, 1, 1, 1⟩ = true) := by
  decide

theorem witness_PollRepeatsUntilItMatches :
    let s := before busyOne (pollReg .status 1#32 0#32)
    let u := before fresh (pollReg .status 1#32 0#32)
    (s.inbox = pollReg .status 1#32 0#32 :: [] ∧ s.readReg .status &&& 1#32 ≠ 0#32) ∧
    (u.inbox = pollReg .status 1#32 0#32 :: [] ∧ u.readReg .status &&& 1#32 = 0#32) := by decide

end Sys2Proof.Tests
end

section
/-! SUPPORT. The invariant: every update of the state keeps it, so every effect of an event and the reset input do. -/

namespace Sys2Proof.Machine

variable {s t : State}

/-! ### Canonical memory -/

theorem State.wf_scrambleInFlight (h : Memory.wf s.mem = true) : Memory.wf s.scrambleInFlight.mem = true := by
  rcases s.scrambleInFlight_cases with he | ⟨d, -, -, he⟩ <;> rw [he]
  · exact h
  · exact s.wf_engineStore _ _ _ h

theorem State.wf_assertReset (h : Memory.wf s.mem = true) : Memory.wf s.assertReset.mem = true :=
  State.wf_scrambleInFlight h

theorem State.wf_abort (c : Coord) (h : Memory.wf s.mem = true) : Memory.wf (s.abort c).mem = true :=
  s.wf_engineStore _ _ _ h

theorem State.wf_writeSample (c : Coord) (out : Sample) (h : Memory.wf s.mem = true) :
    Memory.wf (s.writeSample c out).mem = true := by
  simpa [State.writeSample] using s.wf_engineStore _ _ _ h

theorem State.wf_neighbourWrites (k a : Nat) (b : Byte) (h : Memory.wf s.mem = true) :
    Memory.wf (s.neighbourWrites k a b).mem = true := by
  unfold State.neighbourWrites
  split
  · split
    · exact s.wf_neighbourStoreByte a b h
    · exact h
  · exact h

/-! ### ERR and ERR_CODE -/

/-- ERR_CODE is 0 exactly when ERR is (10_state R26), as a condition on STATUS alone. -/
def Status.codeMatches (st : Status) : Prop := st.err = false ↔ st.errCode = .none

theorem Status.codeMatches_write {st : Status} (w : Word) (h : st.codeMatches) : (st.write w).codeMatches := by
  unfold Status.codeMatches Status.write
  cases w.getLsbD 2
  · exact h
  · exact ⟨fun _ => rfl, fun _ => rfl⟩

theorem Status.codeMatches_raise (st : Status) {e : ErrCode} (he : e ≠ .none) :
    Status.codeMatches { st with err := true, errCode := e } := by
  simp [Status.codeMatches, he]

theorem State.codeMatches_writeSample (c : Coord) (out : Sample) (h : s.status.codeMatches) :
    (s.writeSample c out).status.codeMatches := by
  rw [State.writeSample_status]
  split <;> exact h

/-! ### DEPTH's reserved bits -/

theorem Regs.depthReserved_write {g : Regs} (r : Reg) (w : Word) (h : g.depth &&& ~~~depthMask = 0#32) :
    (g.write r w).depth &&& ~~~depthMask = 0#32 := by
  cases r with
  | depth => simp [Regs.write, BitVec.and_assoc]
  | _ => exact h

/-! ### What the free writes of an unsupported access keep -/

@[simp] theorem State.freeWrites_rom (s : State) (n : Nat) : (s.freeWrites n).rom = s.rom := by
  rw [State.freeWrites_frame]
@[simp] theorem State.freeWrites_platform (s : State) (n : Nat) : (s.freeWrites n).platform = s.platform := by
  rw [State.freeWrites_frame]

/-! ### Keeping the invariant -/

/-- An update that leaves the configuration alone keeps the invariant, if it adds no pending coordinate, no neighbour
and takes no fault back. -/
theorem State.Inv.mono (h : s.Inv) (hmem : Memory.wf t.mem = true) (hst : t.status.codeMatches)
    (hpend : t.pending.Sublist s.pending) (hfaults : ∀ f ∈ s.faults, f ∈ t.faults)
    (hnb : t.neighbours.Sublist s.neighbours) (hregs : t.regs = s.regs := by simp) (hrom : t.rom = s.rom := by simp)
    (hplat : t.platform = s.platform := by simp) (hcol : t.collided = s.collided := by simp) : t.Inv := by
  have hbusy : t.busy = true → s.busy = true := by
    rw [State.busy_iff, State.busy_iff]
    rintro ht hs
    exact ht (List.sublist_nil.mp (hs ▸ hpend))
  exact
    { memWf := hmem
      depthReserved := hregs ▸ h.depthReserved
      errCode := hst
      pending := by
        rw [State.width_congr hregs, State.height_congr hregs]
        exact hpend.trans h.pending
      busyValid := fun hb => State.validate_congr hregs ▸ h.busyValid (hbusy hb)
      romWF := hrom ▸ h.romWF
      overlapRecorded := fun hb hl => hfaults _ (h.overlapRecorded (hbusy hb) (State.layout_congr hregs ▸ hl))
      deviceRecorded := fun hb hd =>
        hfaults _ (h.deviceRecorded (hbusy hb) (State.buffersMeetDevice_congr hregs hplat ▸ hd))
      collisionSeen := fun hb n hn hc =>
        hcol ▸ h.collisionSeen (hbusy hb) n (hnb.subset hn) (State.collidesWith_congr hregs n ▸ hc)
      collidedRecorded := fun hc => hfaults _ (h.collidedRecorded (hcol ▸ hc))
      othersRecorded := fun hp => hfaults _ (h.othersRecorded fun hs => hp (hs.sublist hnb)) }

/-- An update that leaves the engine idle may write the registers too. -/
theorem State.Inv.of_idle (h : s.Inv) (hp : t.pending = []) (hmem : Memory.wf t.mem = true) (hst : t.status.codeMatches)
    (hdepth : t.regs.depth &&& ~~~depthMask = 0#32) (hcol : t.collided = true → s.collided = true)
    (hrom : t.rom = s.rom := by simp) (hfaults : t.faults = s.faults := by simp)
    (hnb : t.neighbours = s.neighbours := by simp) : t.Inv := by
  have hidle : t.busy ≠ true := by simp [State.busy, hp]
  exact
    { memWf := hmem
      depthReserved := hdepth
      errCode := hst
      pending := hp ▸ List.nil_sublist _
      busyValid := fun hb => absurd hb hidle
      romWF := hrom ▸ h.romWF
      overlapRecorded := fun hb => absurd hb hidle
      deviceRecorded := fun hb => absurd hb hidle
      collisionSeen := fun hb => absurd hb hidle
      collidedRecorded := fun hc => hfaults ▸ h.collidedRecorded (hcol hc)
      othersRecorded := fun hpw => hfaults ▸ h.othersRecorded (hnb ▸ hpw) }

theorem State.Inv.codeMatches (h : s.Inv) : s.status.codeMatches := h.errCode

/-- An update of STATUS, of the views of memory, of the queue or of a returned value only. -/
theorem State.Inv.of_frame (h : s.Inv) (hst : t.status.codeMatches) (hmem : t.mem = s.mem := by simp)
    (hpend : t.pending = s.pending := by simp) (hfaults : t.faults = s.faults := by simp)
    (hnb : t.neighbours = s.neighbours := by simp) (hregs : t.regs = s.regs := by simp)
    (hrom : t.rom = s.rom := by simp) (hplat : t.platform = s.platform := by simp)
    (hcol : t.collided = s.collided := by simp) : t.Inv :=
  h.mono (hmem ▸ h.memWf) hst (hpend ▸ List.Sublist.refl _) (fun _ hf => hfaults ▸ hf) (hnb ▸ List.Sublist.refl _)
    hregs hrom hplat hcol

theorem State.Inv.recordFault (h : s.Inv) (f : Fault) : (s.recordFault f).Inv :=
  h.mono h.memWf h.codeMatches (.refl _) (fun _ => State.mem_recordFault_of_mem f) (.refl _)

theorem State.Inv.recordIf (h : s.Inv) (c : Bool) (f : Fault) : (s.recordIf c f).Inv := by
  cases c
  · exact h
  · exact h.recordFault f

theorem State.Inv.tick (h : s.Inv) : s.tick.Inv := h.of_frame h.codeMatches

theorem State.Inv.setInbox (h : s.Inv) (l : List Event) : (s.setInbox l).Inv := h.of_frame h.codeMatches

theorem State.Inv.recordRead (h : s.Inv) (v : Word) : (s.recordRead v).Inv := h.of_frame h.codeMatches

theorem State.Inv.setReturned (h : s.Inv) (v : Sample) : (s.setReturned v).Inv := h.of_frame h.codeMatches

theorem State.Inv.afterRead (h : s.Inv) (off : BitVec 8) : (s.afterRead off).Inv :=
  h.of_frame (by simpa using h.codeMatches)

theorem State.Inv.hostStoreByte (h : s.Inv) (a : Nat) (b : Byte) : (s.hostStoreByte a b).Inv :=
  h.mono (s.wf_hostStoreByte a b h.memWf) (by simpa using h.codeMatches) (by simp) (by simp) (by simp)

theorem State.Inv.neighbourWrites (h : s.Inv) (k a : Nat) (b : Byte) : (s.neighbourWrites k a b).Inv :=
  h.mono (s.wf_neighbourWrites k a b h.memWf) (by simpa using h.codeMatches) (by simp) (by simp) (by simp)

theorem State.Inv.dropNeighbour (h : s.Inv) (k : Nat) : (s.dropNeighbour k).Inv :=
  h.mono h.memWf h.codeMatches (.refl _) (fun _ hf => hf) (List.eraseIdx_sublist _ _)

theorem State.Inv.raiseMemFault (h : s.Inv) : s.raiseMemFault.Inv :=
  h.mono h.memWf (Status.codeMatches_raise _ (by decide)) (List.nil_sublist _) (fun _ hf => hf) (.refl _)

theorem State.Inv.abort (h : s.Inv) (c : Coord) : (s.abort c).Inv :=
  h.mono (State.wf_abort c h.memWf) (by simpa using Status.codeMatches_raise _ (by decide)) (List.nil_sublist _)
    (by simp) (by simp)

/-- A sample written keeps the invariant: PENDING stays a set of coordinates in row-major order (10_state R44). -/
theorem State.Inv.writeSample (h : s.Inv) (c : Coord) (out : Sample) : (s.writeSample c out).Inv :=
  h.mono (State.wf_writeSample c out h.memWf) (State.codeMatches_writeSample c out h.codeMatches)
    (by simp) (by simp) (by simp)

theorem State.Inv.assertReset (h : s.Inv) : s.assertReset.Inv :=
  h.of_idle rfl (State.wf_assertReset h.memWf) ⟨fun _ => rfl, fun _ => rfl⟩ BitVec.zero_and (by simp)

/-- Writing a configuration register of an idle engine keeps the invariant (10_state R27, R35). -/
theorem State.Inv.writeRegs (h : s.Inv) (hb : s.busy = false) (r : Reg) (w : Word) :
    State.Inv { s with regs := s.regs.write r w } :=
  h.of_idle (by simpa [State.busy] using hb) h.memWf h.codeMatches (Regs.depthReserved_write r w h.depthReserved) id
    rfl rfl rfl

/-- Acceptance keeps the invariant: the command is valid, and each hazard of it is recorded (42_transform_command R143,
R156; 20_memory R69; 70_reset_and_hazards R211). -/
theorem State.Inv.accept (h : s.Inv) (hv : s.validate = .none) : s.accept.Inv where
  memWf := by simpa using h.memWf
  depthReserved := by simpa using h.depthReserved
  errCode := by simpa using h.errCode
  pending := by simp [State.width_congr s.accept_regs, State.height_congr s.accept_regs]
  busyValid _ := State.validate_congr s.accept_regs ▸ hv
  romWF := by simpa using h.romWF
  overlapRecorded _ hl := by
    rw [State.layout_congr s.accept_regs] at hl
    exact State.mem_recordIf_of_mem _ _ (State.mem_recordIf_of_mem _ _ (s.mem_recordIf _ (by simp [hl])))
  deviceRecorded _ hd := by
    rw [State.buffersMeetDevice_congr s.accept_regs s.accept_platform] at hd
    exact State.mem_recordIf_of_mem _ _ (State.mem_recordIf _ _ hd)
  collisionSeen _ n hn hc := by
    rw [State.collidesWith_congr s.accept_regs] at hc
    exact List.any_eq_true.mpr ⟨n, by simpa using hn, hc⟩
  collidedRecorded hc := State.mem_recordIf _ _ hc
  othersRecorded hp := State.mem_recordAcceptance_of_mem (h.othersRecorded (by simpa using hp))

theorem State.mem_addNeighbour_of_mem (n : Neighbour) {f : Fault} (hf : f ∈ s.faults) : f ∈ (s.addNeighbour n).faults :=
  State.mem_recordIf_of_mem _ _ hf

/-- A new busy neighbour that collides with this one's command, or with another that is busy, is recorded
(70_reset_and_hazards R211). -/
theorem State.mem_addNeighbour_overlap (n : Neighbour)
    (h : s.meets n = true ∨ ∃ m ∈ s.neighbours, Neighbour.collides m n = true) :
    Fault.concurrentInstanceOverlap ∈ (s.addNeighbour n).faults :=
  State.mem_recordIf _ _ (by simpa using h)

/-- A neighbour that becomes busy keeps the invariant: each collision it brings is recorded. -/
theorem State.Inv.addNeighbour (h : s.Inv) (n : Neighbour) : (s.addNeighbour n).Inv := by
  have hbusy : (s.addNeighbour n).busy = s.busy := State.busy_congr (s.addNeighbour_pending n)
  exact
    { memWf := by simpa using h.memWf
      depthReserved := by simpa using h.depthReserved
      errCode := by simpa using h.errCode
      pending := by
        simpa [State.width_congr (s.addNeighbour_regs n), State.height_congr (s.addNeighbour_regs n)] using h.pending
      busyValid := fun hb => State.validate_congr (s.addNeighbour_regs n) ▸ h.busyValid (hbusy ▸ hb)
      romWF := by simpa using h.romWF
      overlapRecorded := fun hb hl => State.mem_addNeighbour_of_mem n
        (h.overlapRecorded (hbusy ▸ hb) (State.layout_congr (s.addNeighbour_regs n) ▸ hl))
      deviceRecorded := fun hb hd => State.mem_addNeighbour_of_mem n (h.deviceRecorded (hbusy ▸ hb)
        (State.buffersMeetDevice_congr (s.addNeighbour_regs n) (s.addNeighbour_platform n) ▸ hd))
      collisionSeen := by
        intro hb m hm hc
        rw [hbusy] at hb
        rw [State.collidesWith_congr (s.addNeighbour_regs n)] at hc
        rw [State.addNeighbour_neighbours, List.mem_append, List.mem_singleton] at hm
        rw [State.addNeighbour_collided, Bool.or_eq_true]
        rcases hm with hm | rfl
        · exact .inl (h.collisionSeen hb m hm hc)
        · exact .inr (by simp [State.meets, hb, hc])
      collidedRecorded := by
        intro hc
        rw [State.addNeighbour_collided, Bool.or_eq_true] at hc
        rcases hc with hc | hc
        · exact State.mem_addNeighbour_of_mem n (h.collidedRecorded hc)
        · exact State.mem_addNeighbour_overlap n (.inl hc)
      othersRecorded := by
        intro hp
        by_cases hs : s.neighbours.Pairwise fun m n => Neighbour.collides m n = false
        · refine State.mem_addNeighbour_overlap n (.inr ?_)
          by_contra hno
          refine hp (List.pairwise_append.mpr ⟨hs, List.pairwise_singleton _ _, fun m hm k hk => ?_⟩)
          rw [List.mem_singleton.mp hk, Bool.eq_false_iff]
          exact fun hc => hno ⟨m, hm, hc⟩
        · exact State.mem_addNeighbour_of_mem n (h.othersRecorded hs) }

/-- A 32-bit host write, a command it issues included, keeps the invariant. -/
theorem WriteEffect.inv (hw : WriteEffect s t) (h : s.Inv) : t.Inv := by
  cases hw with
  | same => exact h
  | dropped hb => exact h.of_frame h.codeMatches
  | rejected e hb he => exact h.of_frame (Status.codeMatches_raise _ he)
  | emptyFrame hb hv => exact h.of_frame h.codeMatches
  | accepted hb hv hw hh => exact h.accept hv
  | statusWritten w => exact h.of_frame (Status.codeMatches_write w h.codeMatches)
  | configWritten r w hb => exact h.writeRegs hb r w

theorem State.Inv.freeWrites (h : s.Inv) (n : Nat) : (s.freeWrites n).Inv :=
  freeWrites_induction (fun _ _ h hw => hw.inv h) n h

/-- Every event but the reset input keeps the invariant. -/
theorem Effect.inv (he : Effect s t) (h : s.Inv) : t.Inv := by
  cases he with
  | written hw => exact hw.inv h
  | unsupportedWrite race => exact (((h.recordIf _ _).recordFault _).freeWrites 8).tick
  | unsupportedRead v => exact ((h.recordFault _).recordRead v).tick
  | unsupportedPoll l => exact ((h.recordFault _).setInbox l).tick
  | returned v => exact h.setReturned v
  | illegalRequest f v => exact ((h.recordFault f).setReturned v).tick
  | read off v => exact (h.afterRead off).recordRead v
  | pollAgain off l => exact (h.afterRead off).setInbox l
  | racingWrite a b hr => exact ((h.recordFault _).hostStoreByte a b).tick
  | hostWrite a b hr => exact h.hostStoreByte a b
  | hostRead v => exact (h.recordRead v).tick
  | cleaned sp => exact h.of_frame h.codeMatches
  | invalidated sp => exact h.of_frame h.codeMatches
  | neighbourBusy n => exact h.addNeighbour n
  | neighbourIdle k => exact h.dropNeighbour k
  | neighbourWrite k a b => exact h.neighbourWrites k a b
  | aborted c hc => exact h.abort c
  | abortedUnwritten hp => exact h.raiseMemFault
  | sampled c hc out hq => exact h.writeSample c out
  | illegalAborted c hc f hq => exact (h.recordFault f).abort c
  | illegalSampled c hc f hq => exact (h.recordFault f).writeSample c _

/-- Settles O48: the reset input, and each effect an event can have, keep the invariant. -/
theorem stepKeepsTheInvariant : Obligations.StepKeepsTheInvariant := by
  intro s t h hstep
  rcases step_effect hstep with ⟨rest, -, rfl⟩ | he
  · exact (h.setInbox rest).assertReset
  · exact he.inv (h.setInbox _)

end Sys2Proof.Machine
end

section
/-! SUPPORT. What no step changes or takes back, and how a command ends: one lemma each over `Effect`. -/

namespace Sys2Proof.Machine

variable {s t : State}

/-! ### Tables and platform -/

theorem WriteEffect.rom_platform (h : WriteEffect s t) : t.rom = s.rom ∧ t.platform = s.platform := by
  rw [h.frame]
  exact ⟨rfl, rfl⟩

/-- No event but the reset input changes the tables or the platform (10_state R41). -/
theorem Effect.rom_platform (h : Effect s t) : t.rom = s.rom ∧ t.platform = s.platform := by
  cases h with
  | written hw => exact hw.rom_platform
  | _ => simp

/-- Settles O49: neither the reset input nor any effect of an event changes them. -/
theorem tablesNeverChange : Obligations.TablesNeverChange := by
  intro s t h
  rcases step_effect h with ⟨rest, -, rfl⟩ | he
  · simp
  · simpa using he.rom_platform

/-! ### Recorded faults -/

/-- No event but the reset input takes a recorded fault back (10_state R45). -/
theorem Effect.faults_mono (h : Effect s t) {f : Fault} (hf : f ∈ s.faults) : f ∈ t.faults := by
  cases h with
  | written hw => exact hw.faults_mono hf
  | unsupportedWrite race =>
    exact State.mem_freeWrites_of_mem 8 (State.mem_recordFault_of_mem _ (State.mem_recordIf_of_mem _ _ hf))
  | unsupportedRead | unsupportedPoll | illegalRequest => exact State.mem_recordFault_of_mem _ hf
  | racingWrite | illegalAborted | illegalSampled => simpa using State.mem_recordFault_of_mem _ hf
  | neighbourBusy n => exact State.mem_addNeighbour_of_mem n hf
  | _ => simpa using hf

/-- No step takes a recorded fault back. -/
theorem step_faults_mono (h : step s = .next t) {f : Fault} (hf : f ∈ s.faults) : f ∈ t.faults := by
  rcases step_effect h with ⟨rest, -, rfl⟩ | he
  · simpa using hf
  · exact he.faults_mono hf

theorem State.faulted_iff (s : State) : s.faulted = true ↔ ∃ f, f ∈ s.faults := by
  simp [State.faulted, List.eq_nil_iff_forall_not_mem]

/-- Settles O50: every step keeps each recorded fault, so it keeps FAULTED. -/
theorem recordedFaultsAreNeverCleared : Obligations.RecordedFaultsAreNeverCleared := by
  intro s t h
  refine ⟨fun f => step_faults_mono h, fun hs => ?_⟩
  obtain ⟨f, hf⟩ := s.faulted_iff.mp hs
  exact t.faulted_iff.mpr ⟨f, step_faults_mono h hf⟩

/-! ### The end of a command -/

/-- How STATUS tells that the command of `s` ended (10_state R42): DONE, or ERR with MEM_FAULT, the rest as it was. -/
def State.EndsIn (s : State) (st : Status) : Prop :=
  st = { s.status with done := true } ∨ st = { s.status with err := true, errCode := .memFault }

theorem State.freeWrites_busy (n : Nat) (hb : s.busy = true) : (s.freeWrites n).busy = true :=
  (State.busy_congr (State.freeWrites_pending_eq n hb).1).trans hb

/-- A sample written leaves coordinates pending, or reports DONE with the last one (42_transform_command R150). -/
theorem State.writeSample_busy_or_endsIn (s : State) (c : Coord) (out : Sample) :
    (s.writeSample c out).busy = true ∨ s.EndsIn (s.writeSample c out).status := by
  rw [State.busy_iff, State.writeSample_pending, or_iff_not_imp_left, not_not]
  intro h
  exact .inl (by rw [State.writeSample_status, if_pos h])

/-- An event but the reset input keeps a busy engine busy, or reports the end of its command in the same step. -/
theorem Effect.busy_or_endsIn (h : Effect s t) (hb : s.busy = true) : t.busy = true ∨ s.EndsIn t.status := by
  cases h with
  | written hw => exact .inl ((State.busy_congr (hw.pending_eq hb).1).trans hb)
  | unsupportedWrite race => exact .inl (State.freeWrites_busy 8 ((State.busy_congr (by simp)).trans hb))
  | aborted c hc => exact .inr (.inr (by simp))
  | abortedUnwritten hp => exact .inr (.inr rfl)
  | illegalAborted c hc f hq => exact .inr (.inr (by simp))
  | sampled c hc out hq => exact s.writeSample_busy_or_endsIn c out
  | illegalSampled c hc f hq => exact (s.recordFault f).writeSample_busy_or_endsIn c _
  | _ => exact .inl ((State.busy_congr (by simp)).trans hb)

/-- Settles O44: the effect that takes a busy engine to idle reports the command's end. -/
theorem commandEndsWithAReport : Obligations.CommandEndsWithAReport := by
  intro s t hb hstep ht hreset
  rcases step_effect hstep with ⟨rest, hi, -⟩ | he
  · exact absurd hi (hreset rest)
  · exact (he.busy_or_endsIn hb).resolve_left (by simp [ht])

end Sys2Proof.Machine
end

section
/-! SUPPORT. The register window (10_state): what a read answers, what a write changes, and what an access that is not
supported leaves alone. -/

namespace Sys2Proof.Machine

variable {s t : State}

/-! ### STATUS -/

/-- The four flags of STATUS in their places (10_state R24). -/
theorem State.statusWord_flags (s : State) : s.statusWord.getLsbD 0 = s.busy ∧ s.statusWord.getLsbD 1 = s.status.done ∧
    s.statusWord.getLsbD 2 = s.status.err ∧ s.statusWord.getLsbD 3 = s.status.dropped := by
  simp only [State.statusWord, BitVec.getLsbD_append]
  simp

/-- From bit 4 on STATUS holds the three bits of ERR_CODE, and 0 above them (10_state R24). -/
theorem State.statusWord_above (s : State) (i : Nat) :
    s.statusWord.getLsbD (4 + i) = (ErrCode.code s.status.errCode).getLsbD i := by
  simp only [State.statusWord, BitVec.getLsbD_append]
  simpa [Nat.add_comm 4 i] using fun h => BitVec.lt_of_getLsbD h

theorem State.statusWord_reserved (s : State) {i : Nat} (h : 7 ≤ i) : s.statusWord.getLsbD i = false := by
  obtain ⟨j, rfl⟩ := Nat.exists_eq_add_of_le (show 4 ≤ i by omega)
  rw [s.statusWord_above, BitVec.getLsbD_of_ge _ _ (by omega)]

/-- Settles O7 field by field. -/
theorem statusWordFields : Obligations.StatusWordFields := by
  intro s
  obtain ⟨hbusy, hdone, herr, hdropped⟩ := s.statusWord_flags
  refine ⟨by rw [hbusy, s.busy_iff], hdone, herr, hdropped, ?_, ?_, rfl, rfl, rfl, rfl, rfl, rfl, rfl⟩
  · refine BitVec.eq_of_getLsbD_eq fun i hi => ?_
    rw [BitVec.getLsbD_extractLsb', s.statusWord_above, decide_eq_true hi, Bool.true_and]
  · refine BitVec.eq_of_getLsbD_eq fun i hi => ?_
    rw [BitVec.getLsbD_extractLsb', s.statusWord_reserved (by omega), Bool.and_false, BitVec.getLsbD_zero]

/-- Settles O8: a STATUS write is decided by its offset alone, and each bit is cleared where the word has a 1. -/
theorem statusWriteClearsByOnes : Obligations.StatusWriteClearsByOnes := by
  intro s w rest hi
  rw [step_cons hi, handle_wr, if_neg (by decide), if_pos rfl]
  simp only [State.writeStatus, Status.write, State.setInbox]
  cases w.getLsbD 1 <;> cases w.getLsbD 2 <;> cases w.getLsbD 3 <;> simp

/-! ### Registers -/

/-- A CMD write while BUSY is dropped, whatever its word (10_state R35). -/
theorem runRequest_cmd32_busy (w : Word) (hb : s.busy = true) : runRequest (.cmd32 w) s = .next s.setDropped := by
  rw [runRequest_cmd32, execTransform, illegalCommand, if_pos hb, if_pos hb, ite_self]

/-- A configuration register reads as it was written, its reserved bits 0 (10_state R27, R35). -/
theorem State.readReg_write_same (s : State) {r : Reg} (w : Word) (hc : r ≠ .cmd) (hs : r ≠ .status) :
    State.readReg { s with regs := s.regs.write r w } r = if r = .depth then w &&& depthMask else w := by
  cases r with
  | cmd => exact absurd rfl hc
  | status => exact absurd rfl hs
  | _ => rfl

/-- Writing one register changes no other. -/
theorem State.readReg_write_other (s : State) {r r' : Reg} (w : Word) (h : r' ≠ r) :
    State.readReg { s with regs := s.regs.write r w } r' = s.readReg r' := by
  cases r <;> cases r' <;> trivial

/-- Settles O9: CMD and the configuration registers alike drop a write while BUSY; idle, CMD issues, the rest store. -/
theorem registerWritesStoreOrDrop : Obligations.RegisterWritesStoreOrDrop := by
  intro s r w rest hi hr
  have hstep : step s = if r = .cmd then runRequest (.cmd32 w) (s.setInbox rest)
      else .next ((s.setInbox rest).writeConfig r w) := by
    rw [step_cons hi, handle_wr, if_neg hr]
  rw [hstep]
  refine ⟨fun hb => ?_, fun _ hc => if_pos hc, fun hb hc =>
    ⟨{ s with inbox := rest, regs := s.regs.write r w }, ?_, rfl,
    State.readReg_write_same (s.setInbox rest) w hc hr, fun r' h => State.readReg_write_other (s.setInbox rest) w h⟩⟩
  · have hb' : (s.setInbox rest).busy = true := hb
    rw [runRequest_cmd32_busy w hb', State.writeConfig, if_pos hb', ite_self]
    rfl
  · have hb' : (s.setInbox rest).busy = false := hb
    rw [if_neg hc, State.writeConfig, hb']
    rfl

/-! ### Reserved offsets and bits -/

theorem Reg.offset_lt (r : Reg) : r.offset < 0x20#8 := by
  cases r <;> decide

/-- No register stands at a reserved offset (10_state R22). -/
theorem regAt_reserved {off : BitVec 8} (h : 0x20#8 ≤ off) : regAt off = none := by
  rw [regAt, List.find?_eq_none]
  intro r _ he
  exact BitVec.not_lt.mpr h (eq_of_beq he ▸ r.offset_lt)

theorem State.afterRead_of_ne {off : BitVec 8} (h : off ≠ Reg.offset .status) : s.afterRead off = s := by
  rw [State.afterRead, if_neg (fun hs => h hs.1)]

theorem accessSupported_word {off : BitVec 8} (h : off.toNat % 4 = 0) : accessSupported 4 off = true := by
  simp [accessSupported, h]

theorem handle_regRead_word {off : BitVec 8} (h : off.toNat % 4 = 0) (s : State) :
    handle (.regRead 4 off) s = .next ((s.afterRead off).recordRead (s.readOffset off)) := by
  simp only [handle, accessSupported_word h]
  rfl

theorem handle_regWrite_word {off : BitVec 8} (h : off.toNat % 4 = 0) (w : Word) (s : State) :
    handle (.regWrite 4 off w) s = writeOffset off w s := by
  simp only [handle, accessSupported_word h]
  rfl

/-- A read at a reserved offset answers 0 (10_state R34). -/
theorem handle_regRead_reserved {off : BitVec 8} (h : 0x20#8 ≤ off) (ha : off.toNat % 4 = 0) (s : State) :
    handle (.regRead 4 off) s = .next (s.recordRead 0#32) := by
  have hne : off ≠ Reg.offset .status := fun he => BitVec.not_lt.mpr h (he ▸ Reg.offset_lt _)
  rw [handle_regRead_word ha, State.afterRead_of_ne hne, State.readOffset, regAt_reserved h]

/-- A write at a reserved offset does nothing (10_state R34). -/
theorem handle_regWrite_reserved {off : BitVec 8} (h : 0x20#8 ≤ off) (ha : off.toNat % 4 = 0) (w : Word) (s : State) :
    handle (.regWrite 4 off w) s = .next s := by
  rw [handle_regWrite_word ha, writeOffset, regAt_reserved h]

theorem Status.write_mask (st : Status) (w : Word) : st.write (w &&& 0x7F#32) = st.write w := by
  simp [Status.write]

/-- The reserved bits of STATUS read 0 (10_state R24). -/
theorem State.statusWord_and_reserved (s : State) : s.statusWord &&& 0xFFFFFF80#32 = 0#32 := by
  refine BitVec.eq_of_getLsbD_eq fun i _ => ?_
  rw [BitVec.getLsbD_and, BitVec.getLsbD_zero]
  by_cases h : 7 ≤ i
  · rw [s.statusWord_reserved h, Bool.false_and]
  · have hmask : ∀ i < 7, (0xFFFFFF80#32).getLsbD i = false := by decide
    rw [hmask i (by omega), Bool.and_false]

/-- Settles O10: no register stands at a reserved offset, and no reserved bit is stored. -/
theorem reservedOffsetsReadZero : Obligations.ReservedOffsetsReadZero := by
  refine ⟨fun s off rest h ha => ⟨fun hi => ?_, fun w hi => ?_⟩,
    fun s hs => ⟨hs.depthReserved, ?_⟩, fun s w => ⟨?_, ?_⟩⟩
  · rw [step_cons hi, handle_regRead_reserved h ha]
    rfl
  · rw [step_cons hi, handle_regWrite_reserved h ha]
    rfl
  · exact s.statusWord_and_reserved
  · simp [Regs.write, depthMask, BitVec.and_assoc]
  · rw [State.writeStatus, State.writeStatus, Status.write_mask]

/-! ### Reads -/

theorem State.afterRead_frame (s : State) (off : BitVec 8) : s.afterRead off =
    { s with unsynced := (s.afterRead off).unsynced, hostCached := (s.afterRead off).hostCached } := by
  unfold State.afterRead
  split <;> rfl

/-- Settles O12: a read answers the register's value and touches the host's views only. -/
theorem registerReadsHaveNoSideEffect : Obligations.RegisterReadsHaveNoSideEffect := by
  intro s off rest hi ha
  refine ⟨_, by rw [step_cons hi, handle_regRead_word ha], by simp; rfl, ?_⟩
  rw [State.afterRead_frame]
  rfl

/-! ### Accesses that are not supported -/

/-- A read that is not supported records its fault and a value, and changes nothing else (10_state R33; log 31). -/
theorem unsupportedRead_spec (v : Word) (s : State) : ∃ t, unsupportedRead v s = .next t ∧
    Fault.unsupportedRegisterAccess ∈ t.faults ∧ (∀ f ∈ s.faults, f ∈ t.faults) ∧
    t = { s with reads := s.reads ++ [v], faults := t.faults, draws := t.draws } :=
  ⟨_, rfl, s.mem_recordFault _, fun _ => State.mem_recordFault_of_mem _, rfl⟩

/-- A write that is not supported records its fault and leaves memory, the tables and the host's views alone, and the
configuration of a command in progress (10_state R33; log 31). -/
theorem unsupportedWrite_spec (s : State) : ∃ t, unsupportedWrite s = .next t ∧
    Fault.unsupportedRegisterAccess ∈ t.faults ∧ (∀ f ∈ s.faults, f ∈ t.faults) ∧
    t = { s with regs := t.regs, status := t.status, pending := t.pending, collided := t.collided,
                 faults := t.faults, draws := t.draws } ∧
    (s.busy = true → t.pending = s.pending ∧ t.regs = s.regs) := by
  refine ⟨_, rfl, State.mem_freeWrites_of_mem 8 (s.mem_recordFault _),
    fun _ hf => State.mem_freeWrites_of_mem 8 (State.mem_recordFault_of_mem _ hf), ?_, fun hb => ?_⟩
  · rw [State.freeWrites_frame]
    rfl
  · obtain ⟨hp, hr, -⟩ := State.freeWrites_pending_eq (s := s.recordFault .unsupportedRegisterAccess) 8 hb
    exact ⟨hp, hr⟩

theorem accessSupported_eq_false {bytes : Nat} {off : BitVec 8} (h : bytes ≠ 4 ∨ off.toNat % 4 ≠ 0) :
    accessSupported bytes off = false := by
  simpa [accessSupported, ← imp_iff_not_or] using h

theorem State.recordIf_frame (s : State) (c : Bool) (f : Fault) :
    s.recordIf c f = { s with faults := (s.recordIf c f).faults } := by
  cases c <;> rfl

theorem handle_regRead_unsupported {bytes : Nat} {off : BitVec 8} (h : bytes ≠ 4 ∨ off.toNat % 4 ≠ 0) (s : State) :
    handle (.regRead bytes off) s = unsupportedRead (s.freeWord 0) s := by
  rw [handle, accessSupported_eq_false h]
  rfl

theorem handle_regWrite_unsupported {bytes : Nat} {off : BitVec 8} (h : bytes ≠ 4 ∨ off.toNat % 4 ≠ 0) (w : Word)
    (s : State) : handle (.regWrite bytes off w) s = unsupportedWrite s := by
  rw [handle, accessSupported_eq_false h]
  rfl

theorem handle_mr8_window {a : Word} (h : s.inWindow a.toNat = true) :
    handle (mr8 a) s = unsupportedRead ((Config.freeByte s.draws).zeroExtend 32) s := by
  rw [mr8, handle, memReadStep, if_pos h]

theorem handle_mw8_window {a : Word} (b : Byte) (h : s.inWindow a.toNat = true) :
    handle (mw8 a b) s = unsupportedWrite (s.recordIf (s.inBusyBuffer a.toNat) .hostWriteToBusyBuffer) := by
  rw [mw8, handle, memWriteStep, if_pos h]

/-- Settles O11: such an access is the unsupported read or write, at a bad width or offset and in the window alike. -/
theorem unsupportedAccessIsRecorded : Obligations.UnsupportedAccessIsRecorded := by
  refine ⟨fun s bytes off rest h => ⟨fun hi => ?_, fun w hi => ?_⟩, fun s a rest h => ⟨fun hi => ?_, fun b hi => ?_⟩⟩
  · obtain ⟨t, ht, hrec⟩ := unsupportedRead_spec ((s.setInbox rest).freeWord 0) (s.setInbox rest)
    exact ⟨t, _, by rw [step_cons hi, handle_regRead_unsupported h, ht], hrec⟩
  · obtain ⟨t, ht, hrec⟩ := unsupportedWrite_spec (s.setInbox rest)
    exact ⟨t, by rw [step_cons hi, handle_regWrite_unsupported h, ht], hrec⟩
  · obtain ⟨t, ht, hrec⟩ := unsupportedRead_spec ((Config.freeByte s.draws).zeroExtend 32) (s.setInbox rest)
    exact ⟨t, _, by rw [step_cons hi, handle_mr8_window (s := s.setInbox rest) h, ← ht]; rfl, hrec⟩
  · have hframe := (s.setInbox rest).recordIf_frame ((s.setInbox rest).inBusyBuffer a.toNat) .hostWriteToBusyBuffer
    obtain ⟨t, ht, hrec, hmono, hkeep, hbusy⟩ := unsupportedWrite_spec
      ((s.setInbox rest).recordIf ((s.setInbox rest).inBusyBuffer a.toNat) .hostWriteToBusyBuffer)
    refine ⟨t, by rw [step_cons hi, handle_mw8_window (s := s.setInbox rest) b h, ht], hrec,
      fun f hf => hmono f (State.mem_recordIf_of_mem _ _ hf), ?_, fun hb => ?_⟩
    · rw [hframe] at hkeep
      exact hkeep
    · rw [hframe] at hbusy
      exact hbusy hb

end Sys2Proof.Machine
end

section
/-! SUPPORT. The state after power-on (10_state R46): its registers, and that its tables and the rest of it meet the
invariant. -/

namespace Sys2Proof.Machine

/-- Settles O13: every register is 0 at power-on, at every offset. -/
theorem resetStateRegistersReadZero : Obligations.ResetStateRegistersReadZero := by
  refine ⟨fun off => ?_, rfl, rfl, rfl, rfl⟩
  unfold State.readOffset
  split
  · rename_i r hr
    cases r <;> rfl
  · rfl

/-! ### The tables as built -/

theorem runningMax_le_succ (f : Nat → Sample) (n : Nat) : (runningMax f n).toNat ≤ (runningMax f (n + 1)).toNat := by
  rw [runningMax]
  split
  · assumption
  · exact le_refl _

/-- The tables as built meet the constraints of the three parameters (10_state R37, R39, R40). -/
theorem Config.rom_wf : Rom.WF Config.rom where
  pattern_le y x := by
    have h := (Config.patternSeed y.val x.val).isLt
    simp only [Config.rom, Vector.getElem_ofFn, BitVec.truncate_eq_setWidth, BitVec.toNat_setWidth]
    omega
  scale_mono r l := by
    simpa [Config.rom] using runningMax_le_succ (Config.scaleSeed (r.val + 1)) l.val
  level_mono d := by
    have h := d.isLt
    simp only [Config.rom, Vector.getElem_ofFn, BitVec.toNat_ofNat]
    omega

/-- Settles O47: nothing is pending and nothing is recorded, and the tables are built to their constraints. -/
theorem invariantHoldsAtReset : Obligations.InvariantHoldsAtReset :=
  have hidle : State.reset.busy ≠ true := by decide
  { memWf := Memory.wf_reset
    depthReserved := BitVec.zero_and
    errCode := ⟨fun _ => rfl, fun _ => rfl⟩
    pending := List.nil_sublist _
    busyValid := fun hb => absurd hb hidle
    romWF := Config.rom_wf
    overlapRecorded := fun hb => absurd hb hidle
    deviceRecorded := fun hb => absurd hb hidle
    collisionSeen := fun hb => absurd hb hidle
    collidedRecorded := fun hc => absurd hc (by decide)
    othersRecorded := fun hp => absurd List.Pairwise.nil hp }

end Sys2Proof.Machine
end

section
/-! SUPPORT. Sample addresses of a valid command, and the bytes an engine turn can change (20_memory R61, R66, R79). -/

namespace Sys2Proof.Machine

variable {s : State}

/-- A container of the frame ends at or before the end of the buffer's last row, stride by stride. -/
theorem Buffer.addr_add_bytes_le (b : Buffer) {c : Coord} (hx : c.x < b.width) (hy : c.y < b.height) :
    b.addr c + b.bytes ≤ b.base + (b.height - 1) * b.stride + b.width * b.bytes := by
  have hrow : c.y * b.stride ≤ (b.height - 1) * b.stride := Nat.mul_le_mul_right _ (Nat.le_sub_one_of_lt hy)
  have hcol : (c.x + 1) * b.bytes ≤ b.width * b.bytes := Nat.mul_le_mul_right _ hx
  rw [Nat.succ_mul] at hcol
  simp only [Buffer.addr]
  omega

/-- Settles O36: the addresses are those of the two buffers, and validation bounds the end of each buffer's last row. -/
theorem acceptedContainersFitTheAddressSpace : Obligations.AcceptedContainersFitTheAddressSpace := by
  intro s c
  refine ⟨rfl, rfl, fun hv hc => ?_⟩
  obtain ⟨hx, hy⟩ := hc
  obtain ⟨-, -, -, -, hends⟩ := s.bufferError_eq_false.mp (State.validate_eq_none hv).2
  obtain ⟨hsrc, hdst⟩ := hends (Nat.zero_lt_of_lt hx) (Nat.zero_lt_of_lt hy)
  exact ⟨(s.srcBuffer.addr_add_bytes_le hx hy).trans hsrc, (s.dstBuffer.addr_add_bytes_le hx hy).trans hdst⟩

/-- The output container of a coordinate of the frame holds output bytes only, so a store to it changes no other. -/
theorem State.peek_storeOutput_other {c : Coord} (hc : s.inFrame c) (v : Sample) {a : Nat}
    (ha : s.dstBuffer.contains a = false) : (s.engineStore (s.dstAddr c) s.dstBytes v).peek a = s.peek a :=
  s.peek_engineStore_other _ _ _ _ (sampleBytes_cases _) fun hin =>
    Bool.eq_false_iff.mp ha (s.dstBuffer.contains_of_addr hc.1 hc.2 hin)

/-- Settles O41: a turn stores nothing, or one output container of a pending coordinate. -/
theorem engineWritesOnlyOutputBytes : Obligations.EngineWritesOnlyOutputBytes := by
  intro s t choice a hs hturn ha
  rcases engineTurn_next_cases hturn with
    ⟨-, rfl⟩ | ⟨c, hc, rfl⟩ | ⟨-, rfl⟩ | ⟨c, hc, out, -, rfl⟩ | ⟨c, hc, f, hq, -⟩
  · rfl
  · exact State.peek_storeOutput_other (hs.pending_facts hc).1 _ ha
  · rfl
  · rw [State.writeSample_peek]
    exact State.peek_storeOutput_other (hs.pending_facts hc).1 _ ha
  · obtain ⟨out, hok⟩ := State.quantizeSample_ok (hs.pending_facts hc).2 c (s.engineLoad (s.srcAddr c) s.srcBytes)
    simp [hok] at hq

end Sys2Proof.Machine
end

section
/-! SUPPORT. The host's and the engine's views of memory (20_memory R68, R73 to R77): what each may see of a byte, and how a
host write, a STATUS read and cache maintenance change that. -/

namespace Sys2Proof.Machine

variable {s : State} {a : Nat}

/-! ### Older bytes -/

theorem mem_olderBytes {stale : List Host.Cell} {b : Byte} : b ∈ olderBytes stale a ↔ (a, b) ∈ stale := by
  simp only [olderBytes, List.mem_filterMap, Option.ite_none_right_eq_some, Option.some.injEq]
  constructor
  · rintro ⟨⟨k, v⟩, hc, rfl, rfl⟩
    exact hc
  · exact fun h => ⟨(a, b), h, rfl, rfl⟩

theorem fst_ne_of_mem_dropCell {cells : List Host.Cell} {c : Host.Cell} (h : c ∈ dropCell cells a) : c.1 ≠ a := by
  simpa using (List.mem_filter.mp h).2

/-- The host reads the byte memory holds or an older one it may still see (20_memory R68, R74). -/
theorem State.hostByte_current_or_older (slot : Nat) (h : Platform.kindOf s.platform a = .ram) :
    s.hostByte slot a = s.peek a ∨ (a, s.hostByte slot a) ∈ s.unsynced ++ s.hostCached := by
  have hmem := oldOrNew_mem (s.peek a) (olderBytes (s.unsynced ++ s.hostCached) a) (Config.freeIndex (s.draws + slot))
  rw [List.mem_cons, mem_olderBytes] at hmem
  simpa only [State.hostByte, h] using hmem

/-- With no older byte left for the host to see, it reads what memory holds (20_memory R75). -/
theorem State.hostByte_synced (slot : Nat) (h : Platform.kindOf s.platform a = .ram)
    (hu : ∀ c ∈ s.unsynced, c.1 ≠ a) (hc : ∀ c ∈ s.hostCached, c.1 ≠ a) : s.hostByte slot a = s.peek a := by
  refine (State.hostByte_current_or_older slot h).resolve_right fun hmem => ?_
  rcases List.mem_append.mp hmem with hm | hm
  · exact hu _ hm rfl
  · exact hc _ hm rfl

/-! ### Host accesses of memory bytes -/

/-- Ordinary memory lies neither in the register window nor in another device (20_memory R69). -/
theorem State.not_device_of_ram (h : Platform.kindOf s.platform a = .ram) :
    s.inWindow a = false ∧ s.inOtherDevice a = false := by
  have hdev : anySpan (Platform.deviceSpans s.platform) a = false := by
    rw [Bool.eq_false_iff]
    intro hd
    rw [Platform.kindOf, if_pos hd] at h
    split at h <;> contradiction
  simpa [anySpan, Platform.deviceSpans, State.inWindow, State.inOtherDevice] using hdev

theorem handle_mw8_ram {a : Word} (b : Byte) (hr : s.inBusyBuffer a.toNat = false)
    (h : Platform.kindOf s.platform a.toNat = .ram) : handle (mw8 a b) s = .next (s.hostStoreByte a.toNat b) := by
  obtain ⟨hwin, hdev⟩ := State.not_device_of_ram h
  simp [mw8, handle, memWriteStep, hwin, hr, hdev]

theorem handle_mr8 {a : Word} (hwin : s.inWindow a.toNat = false)
    (h : s.inOtherDevice a.toNat = false ∨ s.inBusyBuffer a.toNat = true) :
    handle (mr8 a) s = .next (s.recordRead ((s.hostByte 0 a.toNat).zeroExtend 32)).tick := by
  have hallowed : (s.inOtherDevice a.toNat && !s.inBusyBuffer a.toNat) = false := by
    rcases h with h | h <;> simp [h]
  simp [mr8, handle, memReadStep, hwin, hallowed]

/-- The host sees a byte it wrote at once (20_memory R73). -/
theorem State.hostByte_hostStoreByte_same (b : Byte) (slot : Nat) (h : Platform.kindOf s.platform a = .ram) :
    (s.hostStoreByte a b).hostByte slot a = b := by
  rw [State.hostByte_synced slot (by simpa using h), s.peek_hostStoreByte_same a b h]
  · simpa only [State.hostStoreByte, h] using fun _ => fst_ne_of_mem_dropCell
  · simpa only [State.hostStoreByte, h] using fun _ => fst_ne_of_mem_dropCell

/-- On a coherent platform a host write leaves nothing to be cleaned (20_memory R77). -/
theorem State.hostStoreByte_hostDirty_coherent (b : Byte) (hc : s.platform.coherent = true) :
    (s.hostStoreByte a b).hostDirty = s.hostDirty := by
  unfold State.hostStoreByte
  split
  · exact if_pos hc
  · rfl

/-- On a coherent platform the engine sees a byte the host wrote too, if no earlier write of it waits to be cleaned
(20_memory R73). -/
theorem State.engineByte_hostStoreByte_same (b : Byte) (slot : Nat) (h : Platform.kindOf s.platform a = .ram)
    (hcoh : s.platform.coherent = true) (hclean : s.hostClean a 1) : (s.hostStoreByte a b).engineByte slot a = b := by
  rw [State.engineByte_clean _ slot a _ (by simpa using h), s.peek_hostStoreByte_same a b h]
  rw [State.hostStoreByte_hostDirty_coherent b hcoh]
  exact fun c hc he => hclean c hc (by omega)

/-- Settles O53: the write is the host's store of one byte, which leaves no older byte of it in the host's view, and none
in the engine's on a coherent platform. -/
theorem hostWriteReachesMemory : Obligations.HostWriteReachesMemory := by
  intro s a b rest hi hr hram
  exact ⟨(s.setInbox rest).hostStoreByte a.toNat b, (step_cons hi).trans (handle_mw8_ram b hr hram),
    State.peek_hostStoreByte_same _ _ b hram, fun a' ha => State.peek_hostStoreByte_other _ _ a' b ha,
    fun slot => State.hostByte_hostStoreByte_same b slot hram,
    fun hcoh hclean slot => State.engineByte_hostStoreByte_same b slot hram hcoh hclean, by simp, by simp, by simp, by simp⟩

/-- Settles O55: ordinary memory lies in no device, so in each of the two cases the read completes with the host's view of
the byte. -/
theorem hostReadSeesCurrentOrOlderByte : Obligations.HostReadSeesCurrentOrOlderByte := by
  intro s a rest hi hread
  have hallowed : s.inWindow a.toNat = false ∧ (s.inOtherDevice a.toNat = false ∨ s.inBusyBuffer a.toNat = true) := by
    rcases hread with hram | ⟨hbusy, hwin⟩
    · exact ⟨(State.not_device_of_ram hram).1, .inl (State.not_device_of_ram hram).2⟩
    · exact ⟨hwin, .inr hbusy⟩
  exact ⟨_, (s.setInbox rest).hostByte 0 a.toNat,
    (step_cons hi).trans (handle_mr8 hallowed.1 hallowed.2),
    State.hostByte_current_or_older (s := s.setInbox rest) 0, rfl⟩

/-! ### Synchronisation and cache maintenance -/

/-- Settles O56: the read drops the older bytes under engine writes, and on a coherent platform the cache gains none. -/
theorem statusReadSynchronises : Obligations.StatusReadSynchronises := by
  intro s rest hi hb hcoh
  have hsync : (s.setInbox rest).afterRead (Reg.offset .status) = (s.setInbox rest).syncHost := if_pos ⟨rfl, hb⟩
  refine ⟨_, by rw [step_cons hi, handle_rd, hsync], rfl, by rw [s.statusWord_flags.1, hb], fun slot a hram hcache => ?_⟩
  refine State.hostByte_synced slot hram (List.forall_mem_nil _) ?_
  simpa [State.syncHost, hcoh] using hcache

/-- What is left of a view when a range is taken out of it holds no cell of the range. -/
theorem fst_ne_of_mem_outside {cells : List Host.Cell} {sp : Span} (ha : spanContains sp a = true) :
    ∀ c ∈ cells.filter fun c => !spanContains sp c.1, c.1 ≠ a := by
  rintro c hc rfl
  simp [ha] at hc

/-- Settles O57: no host write in the range is left waiting to be cleaned. -/
theorem cleaningMakesHostWritesVisible : Obligations.CleaningMakesHostWritesVisible := by
  intro s sp rest hi
  exact ⟨_, step_cons hi, fun _ => rfl,
    fun slot a ha hram => State.engineByte_clean _ slot a (fst_ne_of_mem_outside ha) hram⟩

/-- Settles O58: no copy of the range is left in the host's cache, and BUSY = 0 left no engine write unsynchronised. -/
theorem invalidatingShowsEngineWrites : Obligations.InvalidatingShowsEngineWrites := by
  intro s sp rest hi hu
  refine ⟨_, step_cons hi, fun _ => rfl, fun slot a ha hram => State.hostByte_synced slot hram ?_ ?_⟩
  · simp [State.invalidateRange, hu]
  · exact fst_ne_of_mem_outside ha

end Sys2Proof.Machine
end

section
/-! SUPPORT. The encoding (30_encoding): decoder and encoder are inverse format by format, a word that reaches its port runs
as the operation it decodes to, and the requests and polls of 30_encoding R85, R87 and R89. -/

namespace Sys2Proof.Machine

variable {s : State}

/-! ### Decoder and encoder -/

/-- PAT_ADDR: each index is read back from its two fields (30_encoding R83). -/
theorem decodePatAddr_append (y x : BitVec 3) : decodePatAddr (y ++ x) = .ok (.patternLookup y x) := by
  rw [decodePatAddr, BitVec.extractLsb'_append_eq_left, BitVec.extractLsb'_append_eq_right]

/-- SCALE_ADDR: the same, at row 0 too (30_encoding R84). -/
theorem decodeScaleAddr_append (r l : BitVec 4) : decodeScaleAddr (r ++ l) = .ok (.scaleLookup r l) := by
  rw [decodeScaleAddr, BitVec.extractLsb'_append_eq_left, BitVec.extractLsb'_append_eq_right]

/-- QUANT_REQ: bit 31 is 0, and each field is found above those that follow it (30_encoding R85). -/
theorem decodeQuantReq_append (t : BitVec 5) (r : BitVec 4) (y x : BitVec 3) (v : Sample) :
    decodeQuantReq (0#1 ++ t ++ r ++ y ++ x ++ v) = .ok (.quantize t r y x v) := by
  simp (disch := decide) only [decodeQuantReq, BitVec.extractLsb'_append_eq_of_le, Nat.reduceSub,
    BitVec.extractLsb'_append_eq_right]
  exact if_pos rfl

/-- Settles O1, operation by operation: each stands in its own format. -/
theorem decodeOfEncode : Obligations.DecodeOfEncode := by
  intro i
  cases i with
  | transform => rfl
  | patternLookup y x => exact decodePatAddr_append y x
  | scaleLookup r l => exact decodeScaleAddr_append r l
  | quantize t r y x v => exact decodeQuantReq_append t r y x v

/-- The fields of a QUANT_REQ word whose bit 31 is 0 make up the word (30_encoding R85). -/
theorem quantReq_fields_append (w : Word) (h : w.extractLsb' 31 1 = 0#1) :
    0#1 ++ w.extractLsb' 26 5 ++ w.extractLsb' 22 4 ++ w.extractLsb' 19 3 ++ w.extractLsb' 16 3 ++ w.extractLsb' 0 16 = w := by
  rw [← h]
  simp (disch := rfl) only [BitVec.extractLsb'_append_extractLsb'_eq_extractLsb']
  exact BitVec.extractLsb'_eq_self

/-- Settles O2, format by format: a decoded operation's fields are slices of its word, side by side. -/
theorem encodeOfDecode : Obligations.EncodeOfDecode := by
  intro q i h
  cases q with
  | cmd32 w =>
    simp only [decode, decodeCmd32] at h
    split at h
    · cases h
      exact congrArg Request.cmd32 (Eq.symm ‹_›)
    · cases h
  | patAddr a =>
    cases h
    exact congrArg Request.patAddr BitVec.extractLsb'_append_extractLsb'
  | scaleAddr a =>
    cases h
    exact congrArg Request.scaleAddr BitVec.extractLsb'_append_extractLsb'
  | quantReq w =>
    simp only [decode, decodeQuantReq] at h
    split at h
    · cases h
      exact congrArg Request.quantReq (quantReq_fields_append w ‹_›)
    · cases h

/-- Settles O3: each of the four words is the encoding of its operation. -/
theorem spelledOutWordsDecode : Obligations.SpelledOutWordsDecode :=
  ⟨decodeOfEncode .transform, decodeOfEncode (.patternLookup 1#3 5#3), decodeOfEncode (.scaleLookup 2#4 3#4),
    decodeOfEncode (.quantize 8#5 2#4 1#3 5#3 1000#16)⟩

/-! ### A word at its port -/

theorem runRequest_of_decode_ok {q : Request} {i : Instr} (h : decode q = .ok i) (s : State) :
    runRequest q s = exec i s := by
  rw [runRequest, h]

/-- An event that brings a word to its port does what the word asks for; a write of CMD is one (30_encoding R80, R86). -/
theorem handle_of_request {e : Event} {q : Request} (h : Event.request? e = some q) (s : State) :
    handle e s = runRequest q s := by
  cases e with
  | regWrite bytes off w =>
    simp only [Event.request?] at h
    split at h
    · obtain ⟨rfl, rfl⟩ := ‹bytes = 4 ∧ off = Reg.offset .cmd›
      cases h
      exact handle_wr .cmd w s
    · cases h
  | request q' =>
    cases h
    rfl
  | _ => cases h

/-- Settles O4: the word fetched is the next event's. -/
theorem stepRunsTheDecodedOperation : Obligations.StepRunsTheDecodedOperation := by
  intro s q i hf hd
  cases hi : s.inbox with
  | nil => simp [State.fetched, hi] at hf
  | cons e rest =>
    have he : Event.request? e = some q := by simpa only [State.fetched, hi] using hf
    rw [step_cons hi, handle_of_request he, runRequest_of_decode_ok hd, State.popInbox, hi]
    rfl

/-- What is placed is what the next step fetches (log 5). -/
theorem State.fetched_present (s : State) (q : Request) : (s.present q).fetched = some q := by
  cases q <;> rfl

/-- Taking the event of a placed word gives the state it was placed in. -/
theorem State.popInbox_present (s : State) (q : Request) : (s.present q).popInbox = s := rfl

theorem decode_of_decodeTableWord {nbits w : Nat} {i : Instr} (h : decodeTableWord nbits w = some i) :
    decode (tableRequest nbits w) = .ok i := by
  unfold decodeTableWord at h
  split at h
  · cases h
    assumption
  · cases h

/-- Settles O5: the step fetches the word placed, and runs it by O4. -/
theorem placedWordIsExecuted : Obligations.PlacedWordIsExecuted := by
  intro s nbits w i h
  have hrun := stepRunsTheDecodedOperation _ _ i (s.fetched_present (tableRequest nbits w)) (decode_of_decodeTableWord h)
  rwa [State.popInbox_present] at hrun

/-! ### Requests to the quantizer -/

/-- A request with no result records its fault and returns a free value; nothing else changes (30_encoding R87;
logs 16, 18). -/
theorem answer_error_spec (f : Fault) (s : State) : ∃ u, answer (.error f) s = .next u ∧
    f ∈ u.faults ∧ (∀ g ∈ s.faults, g ∈ u.faults) ∧
    ∃ v : Sample, u = { s with returned := some v, faults := u.faults, draws := u.draws } :=
  ⟨_, rfl, s.mem_recordFault f, fun _ => State.mem_recordFault_of_mem f, s.freeSample, rfl⟩

/-- A QUANT_REQ word with bit 31 set is no operation (30_encoding R85, R87). -/
theorem runRequest_quantReq_reserved {w : Word} (h : w.getLsbD 31 = true) (s : State) :
    runRequest (.quantReq w) s = answer (.error .badQuantRequest) s := by
  have hbit : w.extractLsb' 31 1 ≠ 0#1 := fun he => by
    have h0 : (w.extractLsb' 31 1).getLsbD 0 = true := by rw [BitVec.getLsbD_extractLsb', h]; rfl
    simp [he] at h0
  rw [runRequest, decode, decodeQuantReq, if_neg hbit]

/-- Settles O22: an illegal depth or reduction and a reserved bit alike end in the answer without a result. -/
theorem illegalQuantizeRequestsAreRecorded : Obligations.IllegalQuantizeRequestsAreRecorded := by
  refine ⟨fun s t r y x v h => ?_, fun s w rest hi hw => ?_⟩
  · have hillegal : quantLegal t r = false := by
      rw [Bool.eq_false_iff, ne_eq, quantLegal_iff]
      omega
    rw [exec, execQuantize, quantize_illegal _ _ _ _ _ _ hillegal]
    exact answer_error_spec .badQuantRequest s
  · rw [step_cons hi, handle, runRequest_quantReq_reserved hw]
    exact answer_error_spec .badQuantRequest (s.setInbox rest)

/-- Settles O40: an accepted command's sample step quantizes by the fields of that request. -/
theorem sampleStepRequestsQuantize : Obligations.SampleStepRequestsQuantize := by
  intro s c v out hv hq
  rw [State.quantizeSample_eq hv, State.reductionField] at hq
  rw [exec, execQuantize, hq]
  rfl

/-! ### Polls -/

/-- What a register reads does not depend on the events to come. -/
@[simp] theorem State.readReg_setInbox (l : List Event) (r : Reg) : (s.setInbox l).readReg r = s.readReg r := by
  cases r <;> rfl

/-- One read of a poll: it is the register's read where it matches, else the poll stands again behind an engine turn
(30_encoding R89; log 22). -/
theorem handle_pollReg (r : Reg) (mask val : Word) (s : State) : handle (pollReg r mask val) s =
    if s.readReg r &&& mask = val then handle (rd r) s
    else .next ((s.afterRead r.offset).setInbox (.engineTurn none :: pollReg r mask val :: s.inbox)) := by
  cases r <;> rfl

/-- Settles O60: a read that matches is the register's read, and one that does not puts the poll back behind an engine
turn. -/
theorem pollRepeatsUntilItMatches : Obligations.PollRepeatsUntilItMatches := by
  intro s r mask val rest hi
  rw [step_cons hi, handle_pollReg, handle_rd, State.readReg_setInbox]
  by_cases hm : s.readReg r &&& mask = val
  · exact ⟨_, if_pos hm, by simp [hm]⟩
  · exact ⟨_, if_neg hm, by simp [hm]⟩

end Sys2Proof.Machine
end

section
/-! SUPPORT. The lookup units (40_lookup_units): what each answers in terms of the tables, that the pattern is tiled, and
the bounds and the order that the tables' constraints give. -/

namespace Sys2Proof.Machine

/-- Two fields side by side, as a number: the encodings `{y, x}` and `{r, l}` (30_encoding R83, R84). -/
theorem append_eq_ofNat {m n : Nat} (u : BitVec m) (v : BitVec n) :
    u ++ v = BitVec.ofNat (m + n) (2 ^ n * u.toNat + v.toNat) := by
  have hval : (u ++ v).toNat = 2 ^ n * u.toNat + v.toNat := by
    rw [BitVec.toNat_append, ← Nat.shiftLeft_add_eq_or_of_lt v.isLt, Nat.shiftLeft_eq, Nat.mul_comm]
  rw [← hval, BitVec.ofNat_toNat, BitVec.setWidth_eq]

/-! ### The pattern -/

@[simp] theorem tileField_toNat (n : Nat) : (tileField n).toNat = n % 8 := BitVec.toNat_ofNat n 3

/-- The pattern is tiled: the field of a coordinate repeats after 8 (40_lookup_units R101). -/
@[simp] theorem tileField_add_eight (n : Nat) : tileField (n + 8) = tileField n :=
  BitVec.eq_of_toNat_eq (by simp)

/-- A pattern entry is in `{0,1,2,3}` (10_state R37). -/
theorem Rom.WF.patternAt_le {m : Rom} (h : Rom.WF m) (y x : BitVec 3) : (Rom.patternAt m y x).toNat ≤ 3 :=
  h.pattern_le y.toFin x.toFin

/-- PATTERN_LOOKUP answers its entry and changes nothing else (40_lookup_units R100). -/
theorem exec_patternLookup (s : State) (y x : BitVec 3) :
    exec (.patternLookup y x) s = .next (s.setReturned ((Rom.patternAt s.rom y x).zeroExtend 16)) := rfl

/-- Settles O15: the two fields are the coordinate's residues, as row and column of the table and as digits of the index. -/
theorem patternLookupAnswersItsEntry : Obligations.PatternLookupAnswersItsEntry := by
  intro s x y
  refine ⟨exec_patternLookup s (tileField y) (tileField x), ?_,
    fun h => h.patternAt_le (tileField y) (tileField x)⟩
  rw [encode, append_eq_ofNat, tileField_toNat, tileField_toNat]
  rfl

/-- Settles O16: a sample's request sees its coordinate through the two fields only. -/
theorem samplesArePeriodicInTheCoordinate : Obligations.SamplesArePeriodicInTheCoordinate := by
  intro s x y v
  simp only [State.quantizeSample, tileField_add_eight, and_self]

/-- Settles O17: the value returned is a pattern entry, zero-extended. -/
theorem patternValuesAreBelowFour : Obligations.PatternValuesAreBelowFour := by
  intro s y x hs
  refine ⟨_, _, exec_patternLookup s y x, rfl, ?_⟩
  have hfits : ((Rom.patternAt s.rom y x).zeroExtend 16).toNat = (Rom.patternAt s.rom y x).toNat :=
    BitVec.toNat_setWidth_of_le (by decide)
  exact hfits ▸ hs.romWF.patternAt_le y x

/-! ### The scale table -/

theorem toNat_ofNat_four {n : Nat} (h : n < 16) : (BitVec.ofNat 4 n).toNat = n := Nat.mod_eq_of_lt h

theorem exec_scaleLookup (s : State) (r l : BitVec 4) :
    exec (.scaleLookup r l) s = answer (scaleLookup s.rom r l) s := rfl

/-- Row `i + 1` of the spec's table stands at index `i` (10_state R38; log 1). -/
theorem scaleLookup_succ (m : Rom) (i : Fin 15) (l : Fin 16) :
    scaleLookup m (BitVec.ofNat 4 (i.val + 1)) (BitVec.ofNat 4 l.val) = .ok (m.scale[i.val])[l.val] := by
  have hr : (BitVec.ofNat 4 (i.val + 1)).toNat = i.val + 1 := toNat_ofNat_four (by omega)
  have hl : (BitVec.ofNat 4 l.val).toNat = l.val := toNat_ofNat_four l.isLt
  have hne : BitVec.ofNat 4 (i.val + 1) ≠ 0#4 := fun h => by simp [h] at hr
  rw [scaleLookup_of_ne _ _ _ hne, Rom.scaleAt]
  simp only [hr, hl, Nat.add_sub_cancel]

/-- Settles O18: a row that exists is answered by its entry, and row 0 by its fault. -/
theorem scaleLookupAnswersItsEntry : Obligations.ScaleLookupAnswersItsEntry := by
  refine fun s => ⟨fun i l => ⟨?_, ?_⟩, fun l => ?_⟩
  · rw [exec_scaleLookup, scaleLookup_succ]
    rfl
  · rw [encode, append_eq_ofNat, toNat_ofNat_four (by omega), toNat_ofNat_four l.isLt]
    rfl
  · obtain ⟨t, ht, hrec, hmono, v, hframe⟩ := answer_error_spec .scaleRowZero s
    exact ⟨t, v, ht, hrec, hmono, hframe⟩

/-! ### The order of the bias -/

/-- The level map is non-decreasing, step by step and so along its whole length (10_state R40). -/
theorem Rom.WF.levelAt_mono {m : Rom} (h : Rom.WF m) {d d' : BitVec 4} (hd : d ≤ d') :
    Rom.levelAt m d ≤ Rom.levelAt m d' :=
  Fin.monotone_iff_le_succ (f := fun k : Fin 16 => (m.levelMap[k.val]).toNat).mpr h.level_mono hd

/-- So is each row of the scale table (10_state R39). -/
theorem Rom.WF.scaleAt_mono {m : Rom} (h : Rom.WF m) {r l l' : BitVec 4} (hr : r ≠ 0#4) (hl : l ≤ l') :
    Rom.scaleAt m r l hr ≤ Rom.scaleAt m r l' hr := by
  have hr0 : r.toNat ≠ 0 := fun h0 => hr (BitVec.eq_of_toNat_eq h0)
  have hlt := r.isLt
  have hrow : r.toNat - 1 < 15 := by omega
  exact Fin.monotone_iff_le_succ (f := fun k : Fin 16 => ((m.scale[r.toNat - 1])[k.val]).toNat).mpr
    (h.scale_mono ⟨r.toNat - 1, hrow⟩) hl

/-- A lookup that answers a value answers the entry of a row that exists (40_lookup_units R104). -/
theorem scaleLookup_eq_ok {m : Rom} {r l : BitVec 4} {b : Sample} (h : scaleLookup m r l = .ok b) :
    ∃ hr : r ≠ 0#4, b = Rom.scaleAt m r l hr := by
  have hr : r ≠ 0#4 := by
    rintro rfl
    cases h
  rw [scaleLookup_of_ne m r l hr] at h
  exact ⟨hr, (Except.ok.inj h).symm⟩

/-- Settles O19: a larger pattern value has no smaller level, and a larger level no smaller entry in one row. -/
theorem biasIsMonotoneInPatternValue : Obligations.BiasIsMonotoneInPatternValue := by
  intro m r d d' b b' hm hd hb hb'
  obtain ⟨hr, rfl⟩ := scaleLookup_eq_ok hb
  obtain ⟨-, rfl⟩ := scaleLookup_eq_ok hb'
  exact hm.scaleAt_mono hr (hm.levelAt_mono hd)

end Sys2Proof.Machine
end

section
/-! SUPPORT. The faults of an engine turn: a container of a valid command lies in the data space, so that only a device can
stop its access (20_memory R66, R69), and the engine's requests are legal (40_lookup_units R105). -/

namespace Sys2Proof.Machine

variable {s : State}

theorem mem_byteAddrs {a n b : Nat} : b ∈ byteAddrs a n ↔ a ≤ b ∧ b < a + n := by
  simp only [byteAddrs, List.mem_map, List.mem_range]
  constructor
  · rintro ⟨k, hk, rfl⟩
    omega
  · rintro ⟨hle, hlt⟩
    exact ⟨b - a, by omega, by omega⟩

/-! ### What answers at an address -/

theorem addressSpace_le_of_kindOf_outside {p : Platform} {a : Nat} (h : Platform.kindOf p a = .outside) :
    addressSpace ≤ a := by
  unfold Platform.kindOf at h
  split at h
  · assumption
  · split at h
    · cases h
    · split at h <;> cases h

theorem anySpan_of_kindOf_device {p : Platform} {a : Nat} (h : Platform.kindOf p a = .device) :
    anySpan (Platform.deviceSpans p) a = true := by
  unfold Platform.kindOf at h
  split at h
  · cases h
  · split at h
    · assumption
    · split at h <;> cases h

theorem State.accessOutside_eq_false {a n : Nat} (h : a + n ≤ 2 ^ 32) : s.accessOutside a n = false := by
  simp only [State.accessOutside, List.any_eq_false, beq_iff_eq]
  intro b hb hk
  have hle : 2 ^ 32 ≤ b := addressSpace_le_of_kindOf_outside hk
  have hlt := (mem_byteAddrs.mp hb).2
  omega

/-- An access that hits a device shares a byte with a device region (20_memory R69). -/
theorem State.accessHitsDevice_eq_true {a n : Nat} (h : s.accessHitsDevice a n = true) :
    ∃ b, (a ≤ b ∧ b < a + n) ∧ ∃ sp ∈ Platform.deviceSpans s.platform, spanContains sp b = true := by
  simp only [State.accessHitsDevice, List.any_eq_true, beq_iff_eq] at h
  obtain ⟨b, hb, hk⟩ := h
  exact ⟨b, mem_byteAddrs.mp hb, List.any_eq_true.mp (anySpan_of_kindOf_device hk)⟩

/-! ### An access that stops -/

/-- Inside the data space only a device stops an access. -/
theorem State.accessFault_eq_some {a n : Nat} {f : Fault} (hend : a + n ≤ 2 ^ 32) (h : s.accessFault a n = some f) :
    f = .bufferInDeviceRegion ∧ s.accessHitsDevice a n = true := by
  rw [State.accessFault, State.accessOutside_eq_false hend, if_neg Bool.false_ne_true] at h
  split at h
  · exact ⟨(Option.some.inj h).symm, ‹_›⟩
  · cases h

/-- A container of the frame that a device answers is a byte of a buffer in a device region (20_memory R69). -/
theorem State.buffersMeetDevice_of_access {b : Buffer} (hb : b = s.srcBuffer ∨ b = s.dstBuffer) {c : Coord}
    (hx : c.x < b.width) (hy : c.y < b.height) (h : s.accessHitsDevice (b.addr c) b.bytes = true) :
    s.buffersMeetDevice = true := by
  obtain ⟨a, hin, sp, hsp, ha⟩ := State.accessHitsDevice_eq_true h
  have hmeets := b.meetsSpan_of_contains sp a (b.contains_of_addr hx hy hin) ha
  rw [State.buffersMeetDevice, List.any_eq_true]
  refine ⟨sp, hsp, ?_⟩
  rcases hb with rfl | rfl
  · rw [hmeets, Bool.true_or]
  · rw [hmeets, Bool.or_true]

/-- Under the invariant the access to a pending coordinate's container stops only on a device, and that was recorded at
acceptance (20_memory R66, R69). -/
theorem State.Inv.accessFault_recorded (hs : s.Inv) {c : Coord} (hc : c ∈ s.pending) {f : Fault}
    (h : s.accessFault (s.srcAddr c) s.srcBytes = some f ∨ s.accessFault (s.dstAddr c) s.dstBytes = some f) :
    f = .bufferInDeviceRegion ∧ Fault.bufferInDeviceRegion ∈ s.faults := by
  obtain ⟨hframe, hv⟩ := hs.pending_facts hc
  obtain ⟨-, -, hends⟩ := acceptedContainersFitTheAddressSpace s c
  obtain ⟨hsrc, hdst⟩ := hends hv hframe
  have hbusy : s.busy = true := s.busy_iff.mpr (List.ne_nil_of_mem hc)
  rcases h with h | h
  · obtain ⟨hf, hdev⟩ := State.accessFault_eq_some hsrc h
    exact ⟨hf, hs.deviceRecorded hbusy (State.buffersMeetDevice_of_access (.inl rfl) hframe.1 hframe.2 hdev)⟩
  · obtain ⟨hf, hdev⟩ := State.accessFault_eq_some hdst h
    exact ⟨hf, hs.deviceRecorded hbusy (State.buffersMeetDevice_of_access (.inr rfl) hframe.1 hframe.2 hdev)⟩

/-! ### What ends a turn -/

/-- A write access goes on, or stops with the fault of its container. -/
theorem writeAccess_cases (c : Coord) (out : Sample) (s : State) : (∃ t, writeAccess c out s = .next t) ∨
    ∃ f, writeAccess c out s = .fault f ∧ s.accessFault (s.dstAddr c) s.dstBytes = some f := by
  unfold writeAccess
  split
  · exact .inl ⟨_, rfl⟩
  · split
    · exact .inr ⟨_, rfl, ‹_›⟩
    · exact .inl ⟨_, rfl⟩

/-- A sample step goes on, or stops with the fault of one of its two containers. -/
theorem sampleStep_cases (c : Coord) (s : State) : (∃ t, sampleStep c s = .next t) ∨
    ∃ f, sampleStep c s = .fault f ∧
      (s.accessFault (s.srcAddr c) s.srcBytes = some f ∨ s.accessFault (s.dstAddr c) s.dstBytes = some f) := by
  unfold sampleStep
  split
  · exact .inl ⟨_, rfl⟩
  · split
    · exact .inr ⟨_, rfl, .inl ‹_›⟩
    · split
      · rename_i f _
        exact (writeAccess_cases c s.freeSample (s.recordFault f)).imp_right fun ⟨g, hg, ha⟩ => ⟨g, hg, .inr ha⟩
      · rename_i out _
        exact (writeAccess_cases c out s).imp_right fun ⟨g, hg, ha⟩ => ⟨g, hg, .inr ha⟩

/-- An engine turn goes on, or stops with the fault of a container of a pending coordinate. -/
theorem engineTurn_cases (choice : Option Nat) (s : State) : (∃ t, engineTurn choice s = .next t) ∨
    ∃ f, engineTurn choice s = .fault f ∧ ∃ c ∈ s.pending,
      s.accessFault (s.srcAddr c) s.srcBytes = some f ∨ s.accessFault (s.dstAddr c) s.dstBytes = some f := by
  unfold engineTurn
  split
  · exact .inl ⟨s, rfl⟩
  · rename_i c cs hp
    exact (sampleStep_cases _ s).imp_right fun ⟨f, hf, ha⟩ => ⟨f, hf, _, hp ▸ pickCoord_mem _ c cs, ha⟩

/-- A turn that goes on records no fault: under the invariant its request is legal (40_lookup_units R105). -/
theorem State.Inv.engineTurn_faults (hs : s.Inv) {choice : Option Nat} {t : State} (h : engineTurn choice s = .next t) :
    t.faults = s.faults := by
  rcases engineTurn_next_cases h with
    ⟨-, rfl⟩ | ⟨c, -, rfl⟩ | ⟨-, rfl⟩ | ⟨c, -, out, -, rfl⟩ | ⟨c, hc, f, hq, -⟩
  · rfl
  · exact s.abort_faults c
  · exact s.raiseMemFault_faults
  · exact s.writeSample_faults c out
  · obtain ⟨out, hok⟩ := State.quantizeSample_ok (hs.pending_facts hc).2 c (s.engineLoad (s.srcAddr c) s.srcBytes)
    simp [hok] at hq

/-- Settles O43: a turn that stops does so on a pending coordinate's container. -/
theorem engineTurnFaultsOnlyOnDevices : Obligations.EngineTurnFaultsOnlyOnDevices := by
  intro s choice hs
  refine ⟨fun f hf => ?_, fun r hr => ?_, fun t ht => hs.engineTurn_faults ht⟩
  · rcases engineTurn_cases choice s with ⟨t, ht⟩ | ⟨g, hg, c, hc, hacc⟩
    · rw [ht] at hf
      cases hf
    · rw [hg] at hf
      cases hf
      exact hs.accessFault_recorded hc hacc
  · rcases engineTurn_cases choice s with ⟨t, ht⟩ | ⟨g, hg, -⟩
    · rw [ht] at hr
      cases hr
    · rw [hg] at hr
      cases hr

end Sys2Proof.Machine
end

section
/-! SUPPORT. The quantizer (41_quantizer): what a legal request answers, that the answer grows with the input and with the
bias and stays in the range of its depth, and that the sum needs no more than 17 bits. -/

namespace Sys2Proof.Machine

/-! ### What a request answers -/

theorem exec_quantize (t : BitVec 5) (r : BitVec 4) (y x : BitVec 3) (v : Sample) (s : State) :
    exec (.quantize t r y x v) s = answer (quantize s.rom t r y x v) s := rfl

/-- Only a legal request is answered with a value (30_encoding R87). -/
theorem quantLegal_of_quantize_eq_ok {m : Rom} {t : BitVec 5} {r : BitVec 4} {y x : BitVec 3} {v out : Sample}
    (h : quantize m t r y x v = .ok out) : quantLegal t r = true := by
  by_contra hillegal
  rw [quantize_illegal _ _ _ _ _ _ (Bool.eq_false_iff.mpr hillegal)] at h
  cases h

/-- A value answered for `r >= 1` comes out of the datapath, fed with the bias at the sample's position (41_quantizer R122,
R123, R124). -/
theorem quantize_eq_ok_of_ne {m : Rom} {t : BitVec 5} {r : BitVec 4} {y x : BitVec 3} {v out : Sample} (hr : r ≠ 0#4)
    (h : quantize m t r y x v = .ok out) : t.toNat ≤ 16 ∧
      out = addShiftClamp v (Rom.scaleAt m r (Rom.levelAt m (Rom.patternAt m y x)) hr) r.toNat t.toNat := by
  have hlegal := quantLegal_of_quantize_eq_ok h
  rw [quantize_pos _ _ _ _ _ _ hlegal hr] at h
  rw [quantLegal_iff] at hlegal
  exact ⟨by omega, (Except.ok.inj h).symm⟩

/-- A legal request whose bias is looked up is answered by the datapath (41_quantizer R123, R124). -/
theorem quantize_of_bias {m : Rom} {t : BitVec 5} {r : BitVec 4} {y x : BitVec 3} {bias : Sample}
    (hlegal : quantLegal t r = true) (hb : scaleLookup m r (Rom.levelAt m (Rom.patternAt m y x)) = .ok bias) (v : Sample) :
    quantize m t r y x v = .ok (addShiftClamp v bias r.toNat t.toNat) := by
  obtain ⟨hr, rfl⟩ := scaleLookup_eq_ok hb
  exact quantize_pos m t r y x v hlegal hr

/-- Settles O20: depth `T` and no reduction make a legal request. -/
theorem quantizePassesThrough : Obligations.QuantizePassesThrough := by
  intro s t y x v h1 h16
  have hlegal : quantLegal t 0#4 = true := (quantLegal_iff t 0#4).mpr ⟨h1, h16⟩
  rw [exec_quantize, quantize_zero _ _ _ _ _ hlegal]
  rfl

/-! ### The datapath -/

/-- The sum of a sample and its bias fits 17 bits (41_quantizer R124). -/
theorem sample_add_lt (v bias : Sample) : v.toNat + bias.toNat < 2 ^ 17 := by
  have hv := v.isLt
  have hb := bias.isLt
  omega

/-- The clamp bounds the output by its depth's largest value, in every depth of 16 bits or less (41_quantizer R124). -/
theorem addShiftClamp_le (v bias : Sample) (r : Nat) {t : Nat} (ht : t ≤ 16) :
    (addShiftClamp v bias r t).toNat ≤ 2 ^ t - 1 := by
  rw [addShiftClamp_toNat _ _ _ _ ht]
  exact min_le_right _ _

/-- The datapath is monotone in the sample and in the bias: the sum, the shift and the clamp each are (41_quantizer R129). -/
theorem addShiftClamp_mono {v v' bias bias' : Sample} (hv : v ≤ v') (hb : bias ≤ bias') (r : Nat) {t : Nat} (ht : t ≤ 16) :
    addShiftClamp v bias r t ≤ addShiftClamp v' bias' r t := by
  have hsum : v.toNat + bias.toNat ≤ v'.toNat + bias'.toNat := Nat.add_le_add hv hb
  rw [BitVec.le_def, addShiftClamp_toNat _ _ _ _ ht, addShiftClamp_toNat _ _ _ _ ht, Nat.shiftRight_eq_div_pow,
    Nat.shiftRight_eq_div_pow]
  exact min_le_min_right _ (Nat.div_le_div_right hsum)

/-- Settles O26: in 17 bits the sum does not wrap, so it is the sum of the integers. -/
theorem datapathIsSeventeenBits : Obligations.DatapathIsSeventeenBits := by
  intro v bias r t ht
  have hsum : (v.zeroExtend 17 + bias.zeroExtend 17).toNat = v.toNat + bias.toNat := by
    rw [BitVec.toNat_add, BitVec.toNat_setWidth_of_le (by decide), BitVec.toNat_setWidth_of_le (by decide)]
    exact Nat.mod_eq_of_lt (sample_add_lt v bias)
  rw [addShiftClamp_toNat _ _ _ _ ht, BitVec.toNat_ushiftRight, hsum]

/-! ### The answer as a number -/

theorem toNat_ofNat_three (i : Fin 8) : (BitVec.ofNat 3 i.val).toNat = i.val := Nat.mod_eq_of_lt i.isLt

/-- The pattern entry at a row and a column given as numbers (10_state R37). -/
theorem Rom.patternAt_ofNat (m : Rom) (y x : Fin 8) :
    Rom.patternAt m (BitVec.ofNat 3 y.val) (BitVec.ofNat 3 x.val) = (m.pattern[y.val])[x.val] := by
  simp only [Rom.patternAt, toNat_ofNat_three]

/-- Row `i + 1` of the spec's table at a column given as a field (10_state R38; log 1). -/
theorem scaleLookup_succ_field (m : Rom) (i : Fin 15) (l : BitVec 4) :
    scaleLookup m (BitVec.ofNat 4 (i.val + 1)) l = .ok ((m.scale[i.val])[l.toNat]'l.isLt) := by
  simpa using scaleLookup_succ m i l.toFin

/-- Settles O21: the bias is the table entry of the statement, and the shift is a division. -/
theorem quantizeAddsShiftsAndClamps : Obligations.QuantizeAddsShiftsAndClamps := by
  intro s t i y x v h1 hsum d l bias
  have hr : (BitVec.ofNat 4 (i.val + 1)).toNat = i.val + 1 := toNat_ofNat_four (by omega)
  have hlegal : quantLegal t (BitVec.ofNat 4 (i.val + 1)) = true := by
    rw [quantLegal_iff, hr]
    exact ⟨h1, hsum⟩
  have hbias : scaleLookup s.rom (BitVec.ofNat 4 (i.val + 1))
      (Rom.levelAt s.rom (Rom.patternAt s.rom (BitVec.ofNat 3 y.val) (BitVec.ofNat 3 x.val))) = .ok bias := by
    rw [Rom.patternAt_ofNat]
    exact scaleLookup_succ_field s.rom i l
  refine ⟨addShiftClamp v bias (i.val + 1) t.toNat, ?_, sample_add_lt v bias, ?_⟩
  · rw [exec_quantize, quantize_of_bias hlegal hbias, hr]
    rfl
  · rw [addShiftClamp_toNat _ _ _ _ (by omega), Nat.shiftRight_eq_div_pow]

/-! ### Range, order and dither effect -/

/-- Settles O23: the last stage of the datapath is the clamp. -/
theorem quantizeStaysInRange : Obligations.QuantizeStaysInRange := by
  intro m t r y x v out hr h
  obtain ⟨ht, rfl⟩ := quantize_eq_ok_of_ne hr h
  exact addShiftClamp_le _ _ _ ht

/-- Settles O24: both inputs pass through, or both meet the same bias in a monotone datapath. -/
theorem quantizeIsMonotone : Obligations.QuantizeIsMonotone := by
  intro m t r y x v v' out out' hv h h'
  by_cases hr : r = 0#4
  · subst hr
    have hlegal := quantLegal_of_quantize_eq_ok h
    rw [quantize_zero _ _ _ _ _ hlegal] at h h'
    cases h
    cases h'
    exact hv
  · obtain ⟨ht, rfl⟩ := quantize_eq_ok_of_ne hr h
    obtain ⟨-, rfl⟩ := quantize_eq_ok_of_ne hr h'
    exact addShiftClamp_mono hv (BitVec.le_refl _) _ ht

/-- Settles O25: the output lies between those of the least and of the largest bias a 16-bit entry can hold. -/
theorem quantizeDitherIsBounded : Obligations.QuantizeDitherIsBounded := by
  intro m t r y x v out hr h
  obtain ⟨ht, rfl⟩ := quantize_eq_ok_of_ne hr h
  constructor
  · calc min (v.toNat >>> r.toNat) (2 ^ t.toNat - 1)
        = (addShiftClamp v 0#16 r.toNat t.toNat).toNat := (addShiftClamp_toNat v 0#16 _ _ ht).symm
      _ ≤ _ := addShiftClamp_mono (BitVec.le_refl v) (Nat.zero_le _) _ ht
  · calc _
        ≤ (addShiftClamp v 65535#16 r.toNat t.toNat).toNat :=
          addShiftClamp_mono (BitVec.le_refl v) (Nat.le_of_lt_succ (BitVec.isLt _)) _ ht
      _ = min ((v.toNat + 65535) >>> r.toNat) (2 ^ t.toNat - 1) := addShiftClamp_toNat v 65535#16 _ _ ht

/-- A shift by 15 and a clamp to one bit compare a 17-bit sum with 32768 (41_quantizer R128). -/
theorem addShiftClamp_fifteen_one (v bias : Sample) :
    addShiftClamp v bias 15 1 = if 32768 ≤ v.toNat + bias.toNat then 1#16 else 0#16 := by
  apply BitVec.eq_of_toNat_eq
  rw [addShiftClamp_toNat _ _ _ _ (by decide), Nat.shiftRight_eq_div_pow]
  split <;> rw [BitVec.toNat_ofNat] <;> omega

/-- Settles O27: a legal request with `r = 15` leaves one bit of depth. -/
theorem fifteenBitReductionIsAThreshold : Obligations.FifteenBitReductionIsAThreshold := by
  intro m t y x v bias hlegal hb
  have hdepth : 1 ≤ t.toNat ∧ t.toNat + 15 ≤ 16 := (quantLegal_iff t 15#4).mp hlegal
  obtain rfl : t = 1#5 := BitVec.eq_of_toNat_eq (by simp; omega)
  exact ⟨rfl, (quantize_of_bias hlegal hb v).trans (congrArg Except.ok (addShiftClamp_fifteen_one v bias))⟩

end Sys2Proof.Machine
end

section
/-! SUPPORT. The issue of TRANSFORM (42_transform_command R140 to R145, R160): what validation answers, and the four outcomes
of an issue, one equation each. -/

namespace Sys2Proof.Machine

variable {s t : State}

/-! ### Validation -/

theorem State.validate_eq_none_iff (s : State) :
    s.validate = .none ↔ s.configError = false ∧ s.bufferError = false := by
  cases hc : s.configError <;> cases hb : s.bufferError <;> simp [State.validate, hc, hb]

theorem State.validate_eq_config_iff (s : State) : s.validate = .config ↔ ¬s.configError = false := by
  cases hc : s.configError <;> cases hb : s.bufferError <;> simp [State.validate, hc, hb]

theorem State.validate_eq_buffer_iff (s : State) :
    s.validate = .buffer ↔ s.configError = false ∧ ¬s.bufferError = false := by
  cases hc : s.configError <;> cases hb : s.bufferError <;> simp [State.validate, hc, hb]

/-- Settles O29: of the configuration checks the order of the depths and the ends of 1..16 imply the rest. -/
theorem validationFindsTheFirstError : Obligations.ValidationFindsTheFirstError := by
  intro s configOk bufferOk
  have hconfig : s.configError = false ↔ configOk := by
    rw [s.configError_eq_false]
    simp only [configOk]
    omega
  have hbuffer : s.bufferError = false ↔ bufferOk := s.bufferError_eq_false
  rw [s.validate_eq_none_iff, s.validate_eq_config_iff, s.validate_eq_buffer_iff, hconfig, hbuffer]
  exact ⟨Iff.rfl, Iff.rfl, Iff.rfl⟩

/-! ### The four outcomes of an issue -/

theorem exec_transform_busy (hb : s.busy = true) : exec .transform s = .next s.setDropped :=
  congrArg Host.Outcome.next (if_pos hb)

theorem exec_transform_idle (hb : s.busy = false) : exec .transform s = .next s.issueTransform :=
  congrArg Host.Outcome.next (if_neg (Bool.eq_false_iff.mp hb))

/-- Rejection (42_transform_command R144). -/
theorem exec_transform_invalid (hb : s.busy = false) (hv : s.validate ≠ .none) :
    exec .transform s = .next (s.raiseErr s.validate) := by
  rw [exec_transform_idle hb, State.issueTransform]
  split
  · exact absurd ‹_› hv
  · rfl

/-- An empty frame (42_transform_command R145). -/
theorem exec_transform_empty (hb : s.busy = false) (hv : s.validate = .none) (he : s.width = 0 ∨ s.height = 0) :
    exec .transform s = .next s.setDone := by
  rw [exec_transform_idle hb, State.issueTransform, hv]
  exact congrArg Host.Outcome.next (if_pos he)

/-- Acceptance (42_transform_command R143). -/
theorem exec_transform_valid (hb : s.busy = false) (hv : s.validate = .none) (hw : 0 < s.width) (hh : 0 < s.height) :
    exec .transform s = .next s.accept := by
  rw [exec_transform_idle hb, State.issueTransform, hv]
  exact congrArg Host.Outcome.next (if_neg (by omega))

/-- A host write of CMD issues its word (10_state R23, R35). -/
theorem step_wr_cmd {w : Word} {rest : List Event} (hi : s.inbox = wr .cmd w :: rest) :
    step s = runRequest (.cmd32 w) (s.setInbox rest) := by
  rw [step_cons hi, handle_wr, if_pos rfl]

/-- Settles O28: while BUSY no word is looked at. -/
theorem transformWhileBusyIsDropped : Obligations.TransformWhileBusyIsDropped :=
  fun _ hb => ⟨exec_transform_busy hb, fun w rest hi =>
    (step_wr_cmd hi).trans (runRequest_cmd32_busy (s := State.setInbox _ rest) w hb)⟩

/-- Settles O30: the port hands TRANSFORM to the issue, and any other word to the illegal command. -/
theorem transformRejectsInvalidOperands : Obligations.TransformRejectsInvalidOperands := by
  refine fun s hb => ⟨fun hv => ⟨exec_transform_invalid hb hv, fun rest hi => ?_⟩, fun w rest hw hi => ?_⟩
  · rw [step_wr_cmd hi]
    exact exec_transform_invalid (s := s.setInbox rest) hb hv
  · rw [step_wr_cmd hi, runRequest_cmd32, if_neg hw]
    exact congrArg Host.Outcome.next (if_neg (Bool.eq_false_iff.mp hb))

/-- Settles O32: an empty frame is one of the four outcomes. -/
theorem transformOfEmptyFrameIsDone : Obligations.TransformOfEmptyFrameIsDone :=
  fun _ => exec_transform_empty

/-! ### Acceptance -/

/-- What acceptance leaves unchanged (42_transform_command R143). -/
theorem State.accept_frame (s : State) : s.accept =
    { s with pending := s.accept.pending, faults := s.accept.faults, collided := s.accept.collided } := by
  rw [State.mk.injEq]
  simp

/-- A frame with samples makes the engine busy. -/
theorem State.accept_busy (hw : 0 < s.width) (hh : 0 < s.height) : s.accept.busy = true := by
  rw [State.busy_iff, State.accept_pending, ← List.length_pos_iff, length_frameCoords]
  exact Nat.mul_pos hw hh

/-- Settles O33: PENDING takes the frame's coordinates, which number `W * H`. -/
theorem transformAcceptsAFrame : Obligations.TransformAcceptsAFrame := fun s hb hv hw hh =>
  ⟨s.accept, exec_transform_valid hb hv hw hh, State.accept_busy hw hh, fun _ => mem_frameCoords, nodup_frameCoords _ _,
    length_frameCoords _ _, s.accept_frame, fun _ => State.mem_recordAcceptance_of_mem⟩

theorem State.mem_recordIf_iff (s : State) (c : Bool) (f g : Fault) :
    g ∈ (s.recordIf c f).faults ↔ g ∈ s.faults ∨ (g = f ∧ c = true) := by
  cases c with
  | false => simp [State.recordIf_false]
  | true =>
    by_cases h : f ∈ s.faults
    · have hsame : (s.recordIf true f).faults = s.faults := if_pos (by simpa using h)
      rw [hsame]
      exact ⟨.inl, fun hg => hg.elim id fun he => he.1 ▸ h⟩
    · have hmore : (s.recordIf true f).faults = s.faults ++ [f] := if_neg (by simpa using h)
      simp [hmore]

/-- Settles O34: the three hazards are recorded one after the other, each under its own condition. -/
theorem acceptanceRecordsHazards : Obligations.AcceptanceRecordsHazards := by
  intro s t hb hv hw hh h f
  rw [exec_transform_valid hb hv hw hh] at h
  cases h
  simp only [State.accept_faults, State.recordAcceptance, State.mem_recordIf_iff, beq_iff_eq, List.any_eq_true, or_assoc]

/-! ### The frame of an issue -/

/-- Everything the issue of TRANSFORM can do. -/
theorem exec_transform_cases (h : exec .transform s = .next t) :
    t = s.setDropped ∨ t = s.raiseErr s.validate ∨ t = s.setDone ∨ t = s.accept := by
  by_cases hb : s.busy = true
  · exact .inl (Host.Outcome.next.inj (h.symm.trans (exec_transform_busy hb)))
  · rw [Bool.not_eq_true] at hb
    by_cases hv : s.validate = .none
    · by_cases he : s.width = 0 ∨ s.height = 0
      · exact .inr (.inr (.inl (Host.Outcome.next.inj (h.symm.trans (exec_transform_empty hb hv he)))))
      · exact .inr (.inr (.inr (Host.Outcome.next.inj
          (h.symm.trans (exec_transform_valid hb hv (by omega) (by omega))))))
    · exact .inr (.inl (Host.Outcome.next.inj (h.symm.trans (exec_transform_invalid hb hv))))

/-- Settles O35 outcome by outcome: each sets one of DROPPED, ERR, DONE and BUSY. -/
theorem transformFrame : Obligations.TransformFrame := by
  intro s t h
  rcases exec_transform_cases h with rfl | rfl | rfl | rfl
  · exact ⟨rfl, fun _ => rfl, id, id, fun _ => rfl, fun hb => absurd rfl hb, fun hd => absurd rfl hd⟩
  · exact ⟨rfl, fun _ => rfl, id, fun _ => rfl, id, fun hb => absurd rfl hb, fun hd => absurd rfl hd⟩
  · exact ⟨rfl, fun _ => rfl, fun _ => rfl, id, id, fun hb => absurd rfl hb, fun _ => rfl⟩
  · rw [s.accept_status]
    exact ⟨s.accept_frame, fun a => by rw [State.peek, State.peek, s.accept_mem], id, id, id, fun _ => rfl,
      fun hd => absurd rfl hd⟩

end Sys2Proof.Machine
end

section
/-! SUPPORT. The byte set of a buffer as the set of its container bytes, and the three layouts (42_transform_command R147,
R148). -/

namespace Sys2Proof.Machine

variable {s : State}

/-- A byte of a row is a byte of one of its containers: quotient and remainder by the container size. -/
theorem exists_container_iff {p w n a : Nat} :
    (p ≤ a ∧ a < p + w * n) ↔ ∃ x k, x < w ∧ k < n ∧ a = p + x * n + k := by
  constructor
  · rintro ⟨hle, hlt⟩
    have hn : 0 < n := Nat.pos_of_ne_zero (by rintro rfl; omega)
    refine ⟨(a - p) / n, (a - p) % n, (Nat.div_lt_iff_lt_mul hn).mpr (by omega), Nat.mod_lt _ hn, ?_⟩
    have hdiv := Nat.div_add_mod' (a - p) n
    omega
  · rintro ⟨x, k, hx, hk, rfl⟩
    have hrow : (x + 1) * n ≤ w * n := Nat.mul_le_mul_right n hx
    rw [Nat.succ_mul] at hrow
    omega

/-- Settles O37 row by row. -/
theorem bufferBytesAreContainerBytes : Obligations.BufferBytesAreContainerBytes := by
  intro b a
  simp only [b.contains_iff_row, Buffer.rowBytes, exists_container_iff]
  constructor
  · rintro ⟨y, hy, x, k, hx, hk, ha⟩
    exact ⟨x, y, k, hx, hy, hk, ha⟩
  · rintro ⟨x, y, k, hx, hy, hk, ha⟩
    exact ⟨y, hy, x, k, hx, hk, ha⟩

/-! ### Layouts -/

/-- The geometry that makes a layout IDENTICAL, and the bytes both buffers hold, decide it (42_transform_command R148). -/
theorem layoutOf_iff (b c : Buffer) :
    let same := b.base = c.base ∧ b.stride = c.stride ∧ b.bytes = c.bytes
    let meet := ∃ a, b.contains a = true ∧ c.contains a = true
    (layoutOf b c = .identical ↔ same) ∧ (layoutOf b c = .disjoint ↔ ¬same ∧ ¬meet) ∧
      (layoutOf b c = .overlapping ↔ ¬same ∧ meet) := by
  intro same meet
  have hmeet : b.overlaps c = true ↔ meet := b.overlaps_iff c
  rw [layoutOf]
  split
  · rename_i hs
    exact ⟨iff_of_true rfl hs, iff_of_false nofun fun h => h.1 hs, iff_of_false nofun fun h => h.1 hs⟩
  · rename_i hs
    split
    · rename_i ho
      have hm := hmeet.mp ho
      exact ⟨iff_of_false nofun hs, iff_of_false nofun fun h => h.2 hm, iff_of_true rfl ⟨hs, hm⟩⟩
    · rename_i ho
      have hm := mt hmeet.mpr ho
      exact ⟨iff_of_false nofun hs, iff_of_true rfl ⟨hs, hm⟩, iff_of_false nofun fun h => hm h.2⟩

/-- Equal base, stride and container size make the two buffers equal, since both hold the one frame. -/
theorem State.srcBuffer_eq_dstBuffer (s : State) (hbase : s.regs.srcBase = s.regs.dstBase)
    (hstride : s.regs.srcStride = s.regs.dstStride) (hbytes : s.srcBytes = s.dstBytes) : s.srcBuffer = s.dstBuffer := by
  rw [State.srcBuffer, State.dstBuffer, hbase, hstride, hbytes]

theorem sampleBytes_pos (d : Nat) : 0 < sampleBytes d := by
  rcases sampleBytes_cases d with h | h <;> omega

/-- A frame with samples has an input byte. -/
theorem State.exists_srcBuffer_contains (hw : 0 < s.width) (hh : 0 < s.height) : ∃ a, s.srcBuffer.contains a = true :=
  ⟨_, s.srcBuffer.contains_of_addr (c := ⟨0, 0⟩) hw hh
    ⟨Nat.le_refl _, Nat.lt_add_of_pos_right (sampleBytes_pos s.srcDepth)⟩⟩

/-- Settles O38: IDENTICAL buffers are one buffer, and that of a frame with samples meets itself. -/
theorem layoutsAreExclusive : Obligations.LayoutsAreExclusive := by
  intro s same meet
  have hgeometry : (s.srcBuffer.base = s.dstBuffer.base ∧ s.srcBuffer.stride = s.dstBuffer.stride ∧
      s.srcBuffer.bytes = s.dstBuffer.bytes) ↔ same :=
    and_congr BitVec.toNat_inj (and_congr BitVec.toNat_inj Iff.rfl)
  have hbuffer : same → s.srcBuffer = s.dstBuffer := fun ⟨hbase, hstride, hbytes⟩ =>
    s.srcBuffer_eq_dstBuffer hbase hstride hbytes
  have hlayout := layoutOf_iff s.srcBuffer s.dstBuffer
  simp only [hgeometry] at hlayout
  obtain ⟨hident, hdisj, hover⟩ := hlayout
  refine ⟨hident, hdisj, hover, fun hs => ⟨hs.2.2, fun c => by rw [State.srcAddr, hbuffer hs]; rfl⟩, fun hw hh => ?_⟩
  have hmeets : same → meet := fun hs => by
    obtain ⟨a, ha⟩ := State.exists_srcBuffer_contains hw hh
    exact ⟨a, ha, hbuffer hs ▸ ha⟩
  exact ⟨hmeets, hdisj.trans ⟨And.right, fun hm => ⟨fun hs => hm (hmeets hs), hm⟩⟩⟩

end Sys2Proof.Machine
end

section
/-! SUPPORT. One sample step on a pending coordinate: what its write leaves in the output container and outside it, and what
each of the two aborts leaves (42_transform_command R149, R150, R152). -/

namespace Sys2Proof.Machine

variable {s t : State} {c : Coord}

/-! ### What a sample's write and an abort leave in memory -/

theorem State.srcBytes_cases (s : State) : s.srcBytes = 1 ∨ s.srcBytes = 2 := sampleBytes_cases _

theorem State.dstBytes_cases (s : State) : s.dstBytes = 1 ∨ s.dstBytes = 2 := sampleBytes_cases _

/-- A container is read from its own bytes alone (20_memory R63). -/
theorem State.container_congr {a n : Nat} (hn : n = 1 ∨ n = 2) (h : ∀ b, a ≤ b → b < a + n → t.peek b = s.peek b) :
    t.container a n = s.container a n := by
  rcases hn with rfl | rfl
  · simp only [State.container, if_true, h a (Nat.le_refl a) (by omega)]
  · simp only [State.container, h a (Nat.le_refl a) (by omega), h (a + 1) (by omega) (by omega)]

theorem State.peek_writeSample_other (s : State) (c : Coord) (out : Sample) {a : Nat}
    (ha : ¬(s.dstAddr c ≤ a ∧ a < s.dstAddr c + s.dstBytes)) : (s.writeSample c out).peek a = s.peek a := by
  rw [State.writeSample_peek]
  exact s.peek_engineStore_other _ _ _ _ s.dstBytes_cases ha

theorem State.peek_abort_other (s : State) (c : Coord) {a : Nat}
    (ha : ¬(s.dstAddr c ≤ a ∧ a < s.dstAddr c + s.dstBytes)) : (s.abort c).peek a = s.peek a :=
  s.peek_engineStore_other _ _ _ _ s.dstBytes_cases ha

/-- The output container holds the sample written to it in ordinary memory, where the outputs are not free. -/
theorem State.container_writeSample {out : Sample} (hfree : s.contended = false)
    (hdst : s.ordinary true (s.dstAddr c) s.dstBytes) (hfits : s.dstBytes = 1 → out.toNat < 256) :
    (s.writeSample c out).container (s.dstAddr c) s.dstBytes = out.toNat := by
  have hpeek (b : Nat) : (s.writeSample c out).peek b = (s.engineStore (s.dstAddr c) s.dstBytes out).peek b := by
    rw [State.writeSample_peek, hfree]
    rfl
  rw [State.container_congr s.dstBytes_cases fun b _ _ => hpeek b]
  exact State.container_engineStore s.dstBytes_cases (fun k hk => (hdst k hk).1) hfits

/-! ### A sample step that completes -/

/-- With its read and its request in order, a sample step is its write access (42_transform_command R149). -/
theorem sampleStep_eq_writeAccess (hv : s.validate = .none) (hsrc : s.ordinary false (s.srcAddr c) s.srcBytes) :
    ∃ out, s.quantizeSample c (s.engineLoad (s.srcAddr c) s.srcBytes) = .ok out ∧
      sampleStep c s = writeAccess c out s := by
  obtain ⟨out, hout⟩ := State.quantizeSample_ok hv c (s.engineLoad (s.srcAddr c) s.srcBytes)
  obtain ⟨herr, hfault⟩ := State.ordinary_access hsrc
  exact ⟨out, hout, by simp [sampleStep, State.readErrs, herr, hfault, hout]⟩

/-- In ordinary memory, cleaned by the host, a sample step writes QUANTIZE of its input container, which fits the output
container (42_transform_command R149, 41_quantizer R125). -/
theorem sampleStep_clean (hv : s.validate = .none) (hclean : s.hostClean (s.srcAddr c) s.srcBytes)
    (hsrc : s.ordinary false (s.srcAddr c) s.srcBytes) (hdst : s.ordinary true (s.dstAddr c) s.dstBytes) :
    ∃ out, s.quantizeSample c (BitVec.ofNat 16 (s.container (s.srcAddr c) s.srcBytes)) = .ok out ∧
      (s.dstBytes = 1 → out.toNat < 256) ∧ sampleStep c s = .next (s.writeSample c out) := by
  obtain ⟨out, hout, hstep⟩ := sampleStep_ordinary hv hsrc hdst
  have hload := State.engineLoad_eq s.srcBytes_cases hclean fun k hk => (hsrc k hk).1
  have hsmall : s.srcBytes = 1 → (s.engineLoad (s.srcAddr c) s.srcBytes).toNat < 256 := fun h => by
    rw [h]
    exact s.engineLoad_one_lt _
  exact ⟨out, hload ▸ hout, State.quantizeSample_fits hv hout hsmall, hstep⟩

/-- Settles O39: the step is the write of the sample, whose fields and bytes are known. -/
theorem sampleStepWritesItsSample : Obligations.SampleStepWritesItsSample := by
  intro s c hs hc hfree hclean hsrc hdst
  obtain ⟨out, hout, hfits, hstep⟩ := sampleStep_clean (hs.pending_facts hc).2 hclean hsrc hdst
  refine ⟨s.writeSample c out, out, hstep, hout, State.container_writeSample hfree hdst hfits,
    fun a => s.peek_writeSample_other c out, fun d => ?_, ?_, by simp, by simp, by simp⟩
  · simp
  · rw [State.writeSample_pending, State.writeSample_status]

/-! ### A sample step that aborts -/

/-- What an abort leaves of the block, whatever it leaves of memory (42_transform_command R152, 60_exceptions R174). -/
def State.AbortedFrom (s t : State) : Prop :=
  t.pending = [] ∧ t.busy = false ∧ t.status = { s.status with err := true, errCode := .memFault } ∧ t.regs = s.regs ∧
    t.faults = s.faults

theorem State.abort_abortedFrom (s : State) (c : Coord) : s.AbortedFrom (s.abort c) :=
  ⟨rfl, rfl, s.abort_status c, s.abort_regs c, s.abort_faults c⟩

theorem State.abortOnRead_abortedFrom (s : State) : s.AbortedFrom s.abortOnRead :=
  ⟨rfl, rfl, s.abortOnRead_status, s.abortOnRead_regs, s.abortOnRead_faults⟩

/-- The output containers of two coordinates of a valid command share no byte (20_memory R66). -/
theorem State.dst_disjoint (hv : s.validate = .none) {c d : Coord} (hc : s.inFrame c) (hd : s.inFrame d) (h : c ≠ d)
    {a : Nat} (ha : s.dstAddr c ≤ a ∧ a < s.dstAddr c + s.dstBytes) :
    ¬(s.dstAddr d ≤ a ∧ a < s.dstAddr d + s.dstBytes) := by
  obtain ⟨-, -, -, hstride, -⟩ := s.bufferError_eq_false.mp (State.validate_eq_none hv).2
  exact s.dstBuffer.containers_disjoint hstride hc.1 hd.1 h a ha

/-- Settles O42: a coordinate whose read fails is not in flight, and containers of one buffer share no byte. -/
theorem busErrorAbortsTheCommand : Obligations.BusErrorAbortsTheCommand := by
  intro s c hs hc aborted only
  obtain ⟨hframe, hv⟩ := hs.pending_facts hc
  constructor
  · intro herr
    refine ⟨s.abortOnRead, if_pos herr, s.abortOnRead_abortedFrom, ?_⟩
    rcases s.abortOnRead_cases with he | ⟨d, hd, hr, he⟩ <;> rw [he]
    · exact ⟨fun _ _ _ => rfl, .inl fun _ => rfl⟩
    · have hne : c ≠ d := by
        rintro rfl
        exact Bool.false_ne_true (hr.symm.trans herr)
      exact ⟨fun a hle hlt =>
          s.peek_abort_other d (State.dst_disjoint hv hframe (hs.pending_facts hd).1 hne ⟨hle, hlt⟩),
        .inr ⟨d, hd, hne.symm, hr, fun a => s.peek_abort_other d⟩⟩
  · intro hsrc herr
    obtain ⟨out, -, hstep⟩ := sampleStep_eq_writeAccess hv hsrc
    exact ⟨s.abort c, hstep.trans (if_pos herr), s.abort_abortedFrom c, fun a => s.peek_abort_other c⟩

end Sys2Proof.Machine
end

section
/-! SUPPORT. A command in progress: its configuration stays (42_transform_command R141), left alone it ends (R151), and where
the spec determines its outputs, in every order of its samples, it leaves each of them QUANTIZE of its input (R153). -/

namespace Sys2Proof.Machine

variable {s t : State} {c d : Coord}

/-! ### The configuration of a command in progress -/

/-- No event but the reset input writes a configuration register of a busy engine (10_state R35). -/
theorem Effect.regs_eq_of_busy (h : Effect s t) (hb : s.busy = true) : t.regs = s.regs := by
  cases h with
  | written hw => exact (hw.pending_eq hb).2.1
  | unsupportedWrite race =>
    have hb' := (State.busy_congr (by simp : ((s.recordIf race .hostWriteToBusyBuffer).recordFault
      .unsupportedRegisterAccess).pending = s.pending)).trans hb
    obtain ⟨-, hregs, -⟩ := State.freeWrites_pending_eq 8 hb'
    simpa using hregs
  | _ => simp

/-- Settles O51: the reset input, which alone could, leaves no command in progress. -/
theorem configurationIsFixedWhileBusy : Obligations.ConfigurationIsFixedWhileBusy := by
  intro s t hb hstep ht
  rcases step_effect hstep with ⟨rest, -, rfl⟩ | he
  · cases ht
  · exact he.regs_eq_of_busy hb

/-! ### Runs -/

/-- A run takes its first step first (Host/Core.lean). -/
theorem run_succ_of_step (h : step s = .next t) (n : Nat) : Host.Core.run core (n + 1) s = Host.Core.run core n t := by
  have hcore : core.step s = .next t := h
  simp only [Host.Core.run, hcore]

/-- A turn of a busy engine is the sample step of a pending coordinate (42_transform_command R149). -/
theorem engineTurn_eq_sampleStep (choice : Option Nat) (h : s.pending ≠ []) :
    ∃ c ∈ s.pending, engineTurn choice s = sampleStep c s := by
  unfold engineTurn
  split
  · exact absurd ‹_› h
  · rename_i c cs hp
    exact ⟨_, hp ▸ pickCoord_mem _ c cs, rfl⟩

/-! ### Progress -/

/-- Away from devices every turn of the engine goes on (20_memory R66, R69). -/
theorem State.Inv.engineTurn_next (hs : s.Inv) (hdev : s.buffersMeetDevice = false) (choice : Option Nat) :
    ∃ t, engineTurn choice s = .next t := by
  refine (engineTurn_cases choice s).resolve_right ?_
  rintro ⟨f, -, c, hc, hacc⟩
  obtain ⟨hframe, hv⟩ := hs.pending_facts hc
  obtain ⟨-, -, hends⟩ := acceptedContainersFitTheAddressSpace s c
  obtain ⟨hsrc, hdst⟩ := hends hv hframe
  refine Bool.eq_false_iff.mp hdev ?_
  rcases hacc with h | h
  · exact State.buffersMeetDevice_of_access (.inl rfl) hframe.1 hframe.2 (State.accessFault_eq_some hsrc h).2
  · exact State.buffersMeetDevice_of_access (.inr rfl) hframe.1 hframe.2 (State.accessFault_eq_some hdst h).2

/-- A turn that leaves the engine busy has written a sample. -/
theorem State.Inv.engineTurn_busy (hs : s.Inv) {choice : Option Nat} (h : engineTurn choice s = .next t)
    (hb : t.busy = true) : ∃ c ∈ s.pending, ∃ out, t = s.writeSample c out := by
  rcases engineTurn_next_cases h with
    ⟨hp, rfl⟩ | ⟨c, -, rfl⟩ | ⟨-, rfl⟩ | ⟨c, hc, out, -, rfl⟩ | ⟨c, hc, f, hq, -⟩
  · exact absurd hp (t.busy_iff.mp hb)
  · cases hb
  · cases hb
  · exact ⟨c, hc, out, rfl⟩
  · obtain ⟨out, hok⟩ := State.quantizeSample_ok (hs.pending_facts hc).2 c (s.engineLoad (s.srcAddr c) s.srcBytes)
    simp [hok] at hq

theorem State.length_writeSample_pending_lt (hc : c ∈ s.pending) (out : Sample) :
    (s.writeSample c out).pending.length < s.pending.length := by
  rw [State.writeSample_pending, List.length_filter_lt_length_iff_exists]
  exact ⟨c, hc, by simp⟩

/-- A sample that is not the last one leaves STATUS as it was (42_transform_command R150). -/
theorem State.writeSample_status_of_busy {out : Sample} (h : (s.writeSample c out).busy = true) :
    (s.writeSample c out).status = s.status := by
  rw [State.busy_iff, State.writeSample_pending] at h
  rw [State.writeSample_status, if_neg h]

/-- Settles O45 by induction on the number of pending samples: each step ends the command with its report, or writes a
sample. -/
theorem acceptedCommandEnds : Obligations.AcceptedCommandEnds := by
  intro s
  induction hn : s.pending.length using Nat.strong_induction_on generalizing s with
  | _ n ih =>
    intro hs hi hdev hb
    obtain ⟨t, hturn⟩ := hs.engineTurn_next hdev none
    have hstep : step s = .next t := (step_nil hi).trans hturn
    cases ht : t.busy with
    | false =>
      have hpos : 0 < s.pending.length := List.length_pos_iff.mpr (s.busy_iff.mp hb)
      exact ⟨1, t, by omega, run_succ_of_step hstep 0, ht, commandEndsWithAReport s t hb hstep ht (by simp [hi])⟩
    | true =>
      obtain ⟨c, hc, out, rfl⟩ := hs.engineTurn_busy hturn ht
      have hlt := State.length_writeSample_pending_lt hc out
      have hdev' : (s.writeSample c out).buffersMeetDevice = false := by
        rw [State.buffersMeetDevice_congr (s.writeSample_regs c out) (s.writeSample_platform c out), hdev]
      obtain ⟨m, u, hm, hrun, hidle, hreport⟩ :=
        ih _ (hn ▸ hlt) _ rfl (stepKeepsTheInvariant s _ hs hstep) (by simp [hi]) hdev' ht
      rw [State.writeSample_status_of_busy ht] at hreport
      exact ⟨m + 1, u, by omega, (run_succ_of_step hstep m).trans hrun, hidle, hreport⟩

/-! ### The end state of a command left alone -/

/-- A command left alone whose outputs the spec determines: no event is left, its outputs are not free, and the containers of
its pending samples lie in ordinary memory that the host has cleaned (42_transform_command R153, 20_memory R77). -/
structure State.Undisturbed (s : State) : Prop where
  inv : s.Inv
  inbox : s.inbox = []
  notFree : s.contended = false
  clean : ∀ c ∈ s.pending, s.hostClean (s.srcAddr c) s.srcBytes
  readable : ∀ c ∈ s.pending, s.ordinary false (s.srcAddr c) s.srcBytes
  writable : ∀ c ∈ s.pending, s.ordinary true (s.dstAddr c) s.dstBytes

/-- `t` is `s` with its pending samples done: the outputs are QUANTIZE of the inputs as `s` holds them, and no other byte
differs (42_transform_command R153). -/
structure State.CompletedBy (s t : State) : Prop where
  idle : t.busy = false
  status : t.status = if s.pending = [] then s.status else { s.status with done := true }
  outputs : ∀ c ∈ s.pending, ∃ out,
    s.quantizeSample c (BitVec.ofNat 16 (s.container (s.srcAddr c) s.srcBytes)) = .ok out ∧
      t.container (s.dstAddr c) s.dstBytes = out.toNat
  others : ∀ a, (∀ c ∈ s.pending, ¬(s.dstAddr c ≤ a ∧ a < s.dstAddr c + s.dstBytes)) → t.peek a = s.peek a

theorem State.contended_congr (hr : t.regs = s.regs) (hc : t.collided = s.collided) : t.contended = s.contended := by
  rw [State.contended, State.contended, State.layout_congr hr, hc]

theorem State.ordinary_congr (hp : t.platform = s.platform) (w : Bool) (a n : Nat) :
    t.ordinary w a n ↔ s.ordinary w a n := by
  rw [State.ordinary, State.ordinary, hp]

theorem State.quantizeSample_congr (hr : t.regs = s.regs) (hm : t.rom = s.rom) (c : Coord) (v : Sample) :
    t.quantizeSample c v = s.quantizeSample c v := by
  simp only [State.quantizeSample, State.srcDepth_congr hr, State.dstDepth_congr hr, State.targetField,
    State.reductionField, hr, hm]

theorem State.mem_hostDirty_writeSample {out : Sample} {cell : Host.Cell} (h : cell ∈ (s.writeSample c out).hostDirty) :
    cell ∈ s.hostDirty :=
  State.mem_hostDirty_engineStore (by simpa [State.writeSample] using h)

theorem State.mem_writeSample_pending {out : Sample} : d ∈ (s.writeSample c out).pending ↔ d ∈ s.pending ∧ d ≠ c := by
  simp

/-- A sample step leaves the rest of its command undisturbed. -/
theorem State.Undisturbed.writeSample (h : s.Undisturbed) (c : Coord) (out : Sample) :
    (s.writeSample c out).Undisturbed := by
  have hregs := s.writeSample_regs c out
  have hplat := s.writeSample_platform c out
  refine ⟨h.inv.writeSample c out, (s.writeSample_inbox c out).trans h.inbox,
    (State.contended_congr hregs (s.writeSample_collided c out)).trans h.notFree, fun d hd => ?_, fun d hd => ?_,
    fun d hd => ?_⟩
  all_goals have hd' := (State.mem_writeSample_pending.mp hd).1
  · rw [State.srcAddr_congr hregs, State.srcBytes_congr hregs]
    exact fun cell hcell => h.clean d hd' cell (State.mem_hostDirty_writeSample hcell)
  · rw [State.srcAddr_congr hregs, State.srcBytes_congr hregs, State.ordinary_congr hplat]
    exact h.readable d hd'
  · rw [State.dstAddr_congr hregs, State.dstBytes_congr hregs, State.ordinary_congr hplat]
    exact h.writable d hd'

/-- An input container shares no byte with another coordinate's output container, unless the layout is OVERLAPPING
(42_transform_command R148, R155). -/
theorem State.src_dst_disjoint (hv : s.validate = .none) (hl : s.layout ≠ .overlapping) (hc : s.inFrame c)
    (hd : s.inFrame d) (hne : d ≠ c) {a : Nat} (ha : s.srcAddr d ≤ a ∧ a < s.srcAddr d + s.srcBytes) :
    ¬(s.dstAddr c ≤ a ∧ a < s.dstAddr c + s.dstBytes) := by
  obtain ⟨hident, hdisj, -, hsame, -⟩ := layoutsAreExclusive s
  cases hlay : s.layout with
  | identical =>
    obtain ⟨hbytes, haddr⟩ := hsame (hident.mp hlay)
    rw [hbytes, haddr d] at ha
    exact State.dst_disjoint hv hd hc hne ha
  | disjoint =>
    exact fun ha' => (hdisj.mp hlay).2
      ⟨a, s.srcBuffer.contains_of_addr hd.1 hd.2 ha, s.dstBuffer.contains_of_addr hc.1 hc.2 ha'⟩
  | overlapping => exact absurd hlay hl

theorem State.Undisturbed.layout_ne (h : s.Undisturbed) : s.layout ≠ .overlapping := by
  intro hl
  simpa [State.contended, hl] using h.notFree

/-- A sample written takes no other pending sample's input away (42_transform_command R155). -/
theorem State.Undisturbed.srcContainer_writeSample (h : s.Undisturbed) (hc : c ∈ s.pending) (hd : d ∈ s.pending)
    (hne : d ≠ c) (out : Sample) :
    (s.writeSample c out).container (s.srcAddr d) s.srcBytes = s.container (s.srcAddr d) s.srcBytes := by
  obtain ⟨hframe, hv⟩ := h.inv.pending_facts hc
  exact State.container_congr s.srcBytes_cases fun b hle hlt => s.peek_writeSample_other c out
    (State.src_dst_disjoint hv h.layout_ne hframe (h.inv.pending_facts hd).1 hne ⟨hle, hlt⟩)

/-- A sample's step followed by what completes the rest completes the whole: no sample after it takes its output away. -/
theorem State.Undisturbed.completedBy_of_writeSample (h : s.Undisturbed) (hc : c ∈ s.pending) {out : Sample}
    (hout : s.quantizeSample c (BitVec.ofNat 16 (s.container (s.srcAddr c) s.srcBytes)) = .ok out)
    (hfits : s.dstBytes = 1 → out.toNat < 256) (ht : (s.writeSample c out).CompletedBy t) : s.CompletedBy t := by
  obtain ⟨hframe, hv⟩ := h.inv.pending_facts hc
  have hregs := s.writeSample_regs c out
  obtain ⟨hidle, hstatus, houtputs, hothers⟩ := ht
  simp only [State.dstAddr_congr hregs, State.dstBytes_congr hregs, State.srcAddr_congr hregs,
    State.srcBytes_congr hregs, State.quantizeSample_congr hregs (s.writeSample_rom c out),
    State.mem_writeSample_pending] at houtputs hothers
  refine ⟨hidle, ?_, fun d hd => ?_, fun a ha => ?_⟩
  · rw [if_neg (List.ne_nil_of_mem hc), hstatus, State.writeSample_pending, State.writeSample_status]
    split <;> rfl
  · by_cases hdc : d = c
    · subst hdc
      have hkeep : t.container (s.dstAddr d) s.dstBytes = (s.writeSample d out).container (s.dstAddr d) s.dstBytes :=
        State.container_congr s.dstBytes_cases fun b hle hlt => hothers b fun e he =>
          State.dst_disjoint hv hframe (h.inv.pending_facts he.1).1 (Ne.symm he.2) ⟨hle, hlt⟩
      exact ⟨out, hout, hkeep.trans (State.container_writeSample h.notFree (h.writable d hd) hfits)⟩
    · simpa only [h.srcContainer_writeSample hc hd hdc] using houtputs d ⟨hd, hdc⟩
  · rw [hothers a fun d hd => ha d hd.1]
    exact s.peek_writeSample_other c out (ha c hc)

theorem State.Inv.length_writeSample_pending (h : s.Inv) (hc : c ∈ s.pending) (out : Sample) :
    (s.writeSample c out).pending.length = s.pending.length - 1 := by
  have hnodup : s.pending.Nodup := h.pending.nodup (nodup_frameCoords _ _)
  rw [State.writeSample_pending, ← hnodup.erase_eq_filter, List.length_erase_of_mem hc]

/-- Left alone, an undisturbed command takes one step for each pending sample and is then complete. -/
theorem State.Undisturbed.run_completes (n : Nat) (h : s.Undisturbed) (hn : s.pending.length = n) :
    ∃ t, Host.Core.run core n s = .next t ∧ s.CompletedBy t := by
  induction n generalizing s with
  | zero =>
    have hp : s.pending = [] := List.length_eq_zero_iff.mp hn
    exact ⟨s, rfl, by simp [State.busy, hp], by rw [if_pos hp], by simp [hp], fun _ _ => rfl⟩
  | succ n ih =>
    obtain ⟨c, hc, hturn⟩ := engineTurn_eq_sampleStep (s := s) none (List.ne_nil_of_length_eq_add_one hn)
    obtain ⟨out, hout, hfits, hsample⟩ :=
      sampleStep_clean (h.inv.pending_facts hc).2 (h.clean c hc) (h.readable c hc) (h.writable c hc)
    have hstep : step s = .next (s.writeSample c out) := (step_nil h.inbox).trans (hturn.trans hsample)
    obtain ⟨t, hrun, ht⟩ := ih (h.writeSample c out) (by rw [h.inv.length_writeSample_pending hc, hn]; rfl)
    exact ⟨t, (run_succ_of_step hstep n).trans hrun, h.completedBy_of_writeSample hc hout hfits ht⟩

/-- Settles O46: just after acceptance the pending samples are those of the frame. -/
theorem completedCommandEndState : Obligations.CompletedCommandEndState := by
  intro s hs hi hb hpend hfree hclean hord
  have hmem (c : Coord) : c ∈ s.pending ↔ s.inFrame c := by
    rw [hpend]
    exact mem_frameCoords
  have hund : s.Undisturbed := ⟨hs, hi, hfree, fun c hc => hclean c ((hmem c).mp hc),
    fun c hc => (hord c ((hmem c).mp hc)).1, fun c hc => (hord c ((hmem c).mp hc)).2⟩
  obtain ⟨t, hrun, hidle, hstatus, houtputs, hothers⟩ :=
    hund.run_completes _ ((congrArg List.length hpend).trans (length_frameCoords s.width s.height))
  refine ⟨t, hrun, hidle, hstatus.trans (if_neg (s.busy_iff.mp hb)), fun c hc => houtputs c ((hmem c).mpr hc),
    fun a ha => hothers a fun c hc hin => ?_⟩
  have hframe := (hmem c).mp hc
  exact Bool.eq_false_iff.mp ha (s.dstBuffer.contains_of_addr hframe.1 hframe.2 hin)

end Sys2Proof.Machine
end

section
/-! SUPPORT. Exceptions and idleness (60_exceptions): what CONFIG and ILLEGAL_COMMAND record (R171, R172), and that an idle
engine does nothing (R184). -/

namespace Sys2Proof.Machine

variable {s : State}

/-- Settles O31: each of the four conditions breaks `1 ≤ T ≤ S ≤ 16`, so validation answers CONFIG, which is the code a
rejection records. -/
theorem transformRaisesConfig : Obligations.TransformRaisesConfig := by
  intro s hb hdepths
  have hconfig : s.validate = .config := by
    rw [s.validate_eq_config_iff, s.configError_eq_false]
    omega
  rw [exec_transform_invalid hb (by simp [hconfig]), hconfig]
  rfl

/-- Settles O6: the second half of O30, with the number of the code. -/
theorem otherCommandWordsAreIllegal : Obligations.OtherCommandWordsAreIllegal :=
  fun s w rest hi hw hb => ⟨(transformRejectsInvalidOperands s hb).2 w rest hw hi, rfl⟩

/-- An engine with no pending coordinate has no sample step to take (60_exceptions R184). -/
theorem engineTurn_idle (choice : Option Nat) (hb : s.busy = false) : engineTurn choice s = .next s := by
  have hp : s.pending = [] := by simpa [s.busy_iff] using Bool.eq_false_iff.mp hb
  simp only [engineTurn, hp]

/-- Settles O52: with no event left the step is a turn of the idle engine. -/
theorem idleBlockDoesNothing : Obligations.IdleBlockDoesNothing :=
  fun _ hi hb => (step_nil hi).trans (engineTurn_idle none hb)

end Sys2Proof.Machine
end

section
/-! SUPPORT. The reset input and the two hazards of a busy command (70_reset_and_hazards): what reset clears and what it
leaves (R200, R201), a host write that races the engine (R210), and a busy neighbour whose buffers collide (R211). -/

namespace Sys2Proof.Machine

variable {s : State}

/-! ### The reset input -/

/-- With every register at its reset value and nothing pending, the host reads 0 everywhere (10_state R46). -/
theorem State.readOffset_of_reset (hr : s.regs = Regs.reset) (hst : s.status = Status.reset) (hp : s.pending = [])
    (off : BitVec 8) : s.readOffset off = 0#32 := by
  have hword : s.statusWord = 0#32 := by
    simp only [State.statusWord, State.busy, hst, hp]
    decide
  unfold State.readOffset
  split
  · rename_i r _
    cases r <;> simp [State.readReg, hword, hr, Regs.reset]
  · rfl

/-- An idle engine has no container in flight. -/
theorem State.scrambleInFlight_idle (hb : s.busy = false) : s.scrambleInFlight = s := by
  have hp : s.pending = [] := by simpa [s.busy_iff] using Bool.eq_false_iff.mp hb
  simp [State.scrambleInFlight, State.inFlight, hp]

/-- The reset input touches memory only through the container in flight (70_reset_and_hazards R201). -/
theorem State.assertReset_mem (s : State) : s.assertReset.mem = s.scrambleInFlight.mem := rfl

theorem State.peek_assertReset (s : State) (a : Nat) : s.assertReset.peek a = s.scrambleInFlight.peek a := rfl

/-- Such a container, freed, leaves every byte outside it, as an abort of its coordinate does. -/
theorem State.peek_scramble_other (s : State) (c : Coord) {a : Nat}
    (ha : ¬(s.dstAddr c ≤ a ∧ a < s.dstAddr c + s.dstBytes)) : (s.scramble c).peek a = s.peek a :=
  s.peek_abort_other c ha

/-- Settles O14: memory changes only where a container was in flight, and an idle engine has none. -/
theorem resetInputClearsTheBlock : Obligations.ResetInputClearsTheBlock := by
  intro s rest hi
  refine ⟨(s.setInbox rest).assertReset, step_cons hi, State.readOffset_of_reset rfl rfl rfl, rfl, by simp, by simp,
    fun hb => ?_, fun _ => ?_⟩
  · have hidle : (s.setInbox rest).busy = false := hb
    rw [State.assertReset_mem, State.scrambleInFlight_idle hidle]
    rfl
  · rcases (s.setInbox rest).scrambleInFlight_cases with he | ⟨c, hc, hread, he⟩
    · exact .inl fun a => by rw [State.peek_assertReset, he]; rfl
    · exact .inr ⟨c, hc, hread, fun a ha => by
        rw [State.peek_assertReset, he]
        exact (s.setInbox rest).peek_scramble_other c ha⟩

/-! ### A host write that races the engine -/

/-- Outside the register window a racing write stores a free byte (70_reset_and_hazards R210; log 9). -/
theorem handle_mw8_racing {a : Word} (b : Byte) (hwin : s.inWindow a.toNat = false)
    (hr : s.inBusyBuffer a.toNat = true) : handle (mw8 a b) s =
      .next ((s.recordFault .hostWriteToBusyBuffer).hostStoreByte a.toNat (Config.freeByte s.draws)).tick := by
  simp [mw8, handle, memWriteStep, hwin, hr]

/-- In the register window it is an unsupported write, after its own fault is recorded (log 9). -/
theorem handle_mw8_racing_window {a : Word} (b : Byte) (hwin : s.inWindow a.toNat = true)
    (hr : s.inBusyBuffer a.toNat = true) :
    handle (mw8 a b) s = unsupportedWrite (s.recordFault .hostWriteToBusyBuffer) := by
  rw [handle_mw8_window b hwin, hr]
  rfl

theorem State.busy_of_inBusyBuffer {a : Nat} (h : s.inBusyBuffer a = true) : s.busy = true := by
  rw [State.inBusyBuffer, Bool.and_eq_true] at h
  exact h.1

/-- Settles O54: in the window the access is an unsupported write, which leaves memory alone and a busy command's
configuration with it; elsewhere it stores at most its own byte. -/
theorem racingHostWriteIsRecorded : Obligations.RacingHostWriteIsRecorded := by
  intro s a b rest hi hr
  have hrace : (s.setInbox rest).inBusyBuffer a.toNat = true := hr
  rw [step_cons hi]
  cases hwin : (s.setInbox rest).inWindow a.toNat with
  | true =>
    obtain ⟨t, ht, -, hmono, hkeep, hbusy⟩ :=
      unsupportedWrite_spec ((s.setInbox rest).recordFault .hostWriteToBusyBuffer)
    have hrec := hmono _ (State.mem_recordFault _ _)
    obtain ⟨hp, hregs⟩ := hbusy (State.busy_of_inBusyBuffer hr)
    refine ⟨t, (handle_mw8_racing_window b hwin hrace).trans ht, hrec, t.faulted_iff.mpr ⟨_, hrec⟩, hp, hregs, ?_⟩
    rw [hkeep]
    exact fun _ _ => rfl
  | false =>
    refine ⟨_, handle_mw8_racing b hwin hrace, ?hrec, (State.faulted_iff _).mpr ⟨_, ?hrec⟩, by simp, by simp,
      fun a' ha => State.peek_hostStoreByte_other _ _ a' _ ha⟩
    simpa using (s.setInbox rest).mem_recordFault .hostWriteToBusyBuffer

/-! ### A busy neighbour's buffers -/

/-- Two engines collide when their outputs share a byte, or the output of one and the input of the other do
(70_reset_and_hazards R211). -/
theorem Neighbour.collides_iff (m n : Neighbour) : Neighbour.collides m n = true ↔
    m.dst.overlaps n.dst = true ∨ m.dst.overlaps n.src = true ∨ n.dst.overlaps m.src = true := by
  simp [Neighbour.collides, or_assoc]

/-- Of the neighbours that become busy, only those that meet the command in progress free its outputs (log 8). -/
theorem State.contended_addNeighbour (s : State) (n : Neighbour) :
    (s.addNeighbour n).contended = (s.contended || s.meets n) := by
  simp only [State.contended, State.layout_congr (s.addNeighbour_regs n), State.addNeighbour_collided, Bool.or_assoc]

theorem State.meets_eq_true (hb : s.busy = true) {n : Neighbour} (h : s.collidesWith n = true) : s.meets n = true := by
  rw [State.meets, hb, h, Bool.and_self]

/-- Settles O59: the new neighbour meets the busy command, or an earlier neighbour, exactly where their buffers collide. -/
theorem instanceCollisionIsRecorded : Obligations.InstanceCollisionIsRecorded := by
  intro s n rest hi
  refine ⟨(s.setInbox rest).addNeighbour n, step_cons hi, rfl, fun hb hc => ?_, fun m hm hc => ?_, fun hc => ?_⟩
  · have hmeets : (s.setInbox rest).meets n = true := State.meets_eq_true hb ((Neighbour.collides_iff _ n).mpr hc)
    exact ⟨State.mem_addNeighbour_overlap n (.inl hmeets), by rw [State.contended_addNeighbour, hmeets, Bool.or_true]⟩
  · exact State.mem_addNeighbour_overlap n (.inr ⟨m, hm, (Neighbour.collides_iff m n).mpr hc⟩)
  · have hmiss : (s.setInbox rest).meets n = false := Bool.and_eq_false_imp.mpr fun _ => hc
    rw [State.contended_addNeighbour, hmiss, Bool.or_false]
    rfl

end Sys2Proof.Machine
end
